-- ==== Sys2Proof/Word.lean ====
section
/-! DEFINITION. The fixed widths of the block: command and response words, the 16-bit fields and the 48-bit fields. -/

namespace Sys2Proof

/-- A command word or a response word: 64 bits, delivered whole (R51, R60, R64, R71). -/
abbrev Word := BitVec 64

/-- A 16-bit value: the D16 operand, the TCI and the TPID (R6, R61). -/
abbrev Half := BitVec 16

/-- A MAC address register, 48 bits (R8). -/
abbrev Mac := BitVec 48

/-- The read data of a response, 48 bits (R64). -/
abbrev RData := BitVec 48

end Sys2Proof
end

