-- ==== Sys2Proof/Syntax.lean ====
section
/-! DEFINITION. The commands of the block as syntax: one constructor of `Instr` per row of spec/opcode_table.json, with
typed operands, and a command word cut into the four fields of R60. -/

namespace Sys2Proof

/-- The primitive registers, one per width (R3, R20). The width code is `Width.sel` in Decode.lean (R62). -/
inductive Width where
  | u1 | u2 | u3 | u4 | u12
deriving DecidableEq, Repr

/-- The Ethernet header banks (R12, R26). The bank code is `Bank.sel` in Decode.lean (R63). -/
inductive Bank where
  | h0 | h1
deriving DecidableEq, Repr

/-- The closed EtherType enumeration (R7, R29, R140). -/
inductive EtherType where
  | empty | ipv4
deriving DecidableEq, Repr

/-- The 32 commands of the opcode map (R61), in the table's order. A D16 operand is the 16-bit value as it stands in the
word (R68); no operand is range-checked before its command runs. -/
inductive Instr where
  /-- P_DEFAULT (R100) -/
  | pDefault (w : Width)
  /-- P_TRYFROM (R101) -/
  | pTryFrom (w : Width) (v : Half)
  /-- P_SET (R102) -/
  | pSet (w : Width) (v : Half)
  /-- P_VALUE (R103) -/
  | pValue (w : Width)
  /-- P_ISVALID (R104) -/
  | pIsValid (w : Width)
  /-- P_MIN (R105) -/
  | pMin (w : Width)
  /-- P_MAX (R106) -/
  | pMax (w : Width)
  /-- P_BITS (R107) -/
  | pBits (w : Width)
  /-- TAG_DEFAULT (R120) -/
  | tagDefault
  /-- TAG_NEW (R121) -/
  | tagNew (v : Half)
  /-- TAG_WR_TPID (R122) -/
  | tagWrTpid (v : Half)
  /-- TAG_RD_TPID (R123) -/
  | tagRdTpid
  /-- TAG_RD_TCI (R124) -/
  | tagRdTci
  /-- TAG_ISVALID (R125) -/
  | tagIsValid
  /-- TAG_GET_PCP (R126) -/
  | tagGetPcp
  /-- TAG_SET_PCP (R127) -/
  | tagSetPcp (v : Half)
  /-- TAG_GET_DEI (R128) -/
  | tagGetDei
  /-- TAG_SET_DEI (R129) -/
  | tagSetDei (b : Bool)
  /-- TAG_GET_VID (R130) -/
  | tagGetVid
  /-- TAG_SET_VID (R131) -/
  | tagSetVid (v : Half)
  /-- HDR_DEFAULT (R150) -/
  | hdrDefault (h : Bank)
  /-- HDR_WR_SRC (R151) -/
  | hdrWrSrc (h : Bank) (m : Mac)
  /-- HDR_WR_DST (R152) -/
  | hdrWrDst (h : Bank) (m : Mac)
  /-- HDR_RD_SRC (R153) -/
  | hdrRdSrc (h : Bank)
  /-- HDR_RD_DST (R154) -/
  | hdrRdDst (h : Bank)
  /-- HDR_SET_TAG (R155) -/
  | hdrSetTag (h : Bank)
  /-- HDR_CLR_TAG (R156) -/
  | hdrClrTag (h : Bank)
  /-- HDR_GET_TAG (R157) -/
  | hdrGetTag (h : Bank)
  /-- HDR_SET_ETYPE (R158) -/
  | hdrSetEtype (h : Bank) (e : EtherType)
  /-- HDR_RD_ETYPE (R159) -/
  | hdrRdEtype (h : Bank)
  /-- ET_TRYFROM (R141) -/
  | etTryFrom (h : Bank) (r : Half)
  /-- HDR_EQ (R160) -/
  | hdrEq
deriving DecidableEq, Repr

/-- A command word cut into the fields of R60: op[63:56], sel[55:52], rsv[51:48], data[47:0]. -/
structure RawCommand where
  op : BitVec 8
  sel : BitVec 4
  rsv : BitVec 4
  data : BitVec 48
deriving DecidableEq, Repr

end Sys2Proof
end

