-- ==== Sys2Proof/WellFormed.lean ====
section
/-! DEFINITION. Which command words are legal (R66 to R69), as four checks on the fields of a word. They are written from the
opcode map of R61 as a table, apart from the decoder, so that the two can be held against each other. An `Instr` needs no
check of its own: its operands are typed, and every value of them is one the encoding admits. -/

namespace Sys2Proof

/-- What a command's selector field names (R61): a width code, a bank code, or nothing. -/
inductive SelKind where
  | width | bank | unused
deriving DecidableEq, Repr

/-- What a command's data field holds (R61, R68). -/
inductive DataKind where
  | unused | d16 | d1 | d48
deriving DecidableEq, Repr

/-- One row of the opcode map. -/
structure OpcodeRow where
  op : BitVec 8
  sel : SelKind
  data : DataKind
deriving DecidableEq, Repr

/-- The primitive rows of R61. -/
def primitiveRows : List OpcodeRow :=
  [⟨0x10, .width, .unused⟩, ⟨0x11, .width, .d16⟩, ⟨0x12, .width, .d16⟩, ⟨0x13, .width, .unused⟩,
   ⟨0x14, .width, .unused⟩, ⟨0x15, .width, .unused⟩, ⟨0x16, .width, .unused⟩, ⟨0x17, .width, .unused⟩]

/-- The tag codec rows of R61. -/
def tagRows : List OpcodeRow :=
  [⟨0x20, .unused, .unused⟩, ⟨0x21, .unused, .d16⟩, ⟨0x22, .unused, .d16⟩, ⟨0x23, .unused, .unused⟩,
   ⟨0x24, .unused, .unused⟩, ⟨0x25, .unused, .unused⟩, ⟨0x26, .unused, .unused⟩, ⟨0x27, .unused, .d16⟩,
   ⟨0x28, .unused, .unused⟩, ⟨0x29, .unused, .d1⟩, ⟨0x2A, .unused, .unused⟩, ⟨0x2B, .unused, .d16⟩]

/-- The header and EtherType rows of R61. -/
def headerRows : List OpcodeRow :=
  [⟨0x30, .bank, .unused⟩, ⟨0x31, .bank, .d48⟩, ⟨0x32, .bank, .d48⟩, ⟨0x33, .bank, .unused⟩,
   ⟨0x34, .bank, .unused⟩, ⟨0x35, .bank, .unused⟩, ⟨0x36, .bank, .unused⟩, ⟨0x37, .bank, .unused⟩,
   ⟨0x38, .bank, .d1⟩, ⟨0x39, .bank, .unused⟩, ⟨0x3A, .bank, .d16⟩, ⟨0x3B, .unused, .unused⟩]

/-- The opcode map of R61. -/
def opcodeMap : List OpcodeRow := primitiveRows ++ tagRows ++ headerRows

/-- The row of the opcode map for an opcode; none for an undefined opcode (R69). -/
def opcodeKinds (op : BitVec 8) : Option (SelKind × DataKind) :=
  (opcodeMap.find? (fun row => row.op == op)).map (fun row => (row.sel, row.data))

/-- The legal values of sel (R62, R63, R67). -/
def SelKind.admits : SelKind → BitVec 4 → Bool
  | .width, sel => decide (sel.toNat ≤ 4)
  | .bank, sel => decide (sel.toNat ≤ 1)
  | .unused, sel => decide (sel.toNat = 0)

/-- The legal values of data: the bits that must be 0 are 0 (R68). -/
def DataKind.admits : DataKind → BitVec 48 → Bool
  | .unused, data => decide (data.toNat = 0)
  | .d16, data => decide (data.toNat < 2 ^ 16)
  | .d1, data => decide (data.toNat < 2)
  | .d48, _ => true

/-- Check 1 of R70: the opcode is in the map. -/
def RawCommand.opcodeDefined (c : RawCommand) : Bool := (opcodeKinds c.op).isSome

/-- Check 2 of R70: rsv is 0 (R66). -/
def RawCommand.rsvZero (c : RawCommand) : Bool := decide (c.rsv.toNat = 0)

/-- Check 3 of R70: sel holds a legal value for the opcode (R67). An undefined opcode asks nothing of sel. -/
def RawCommand.selLegal (c : RawCommand) : Bool :=
  match opcodeKinds c.op with
  | some (k, _) => k.admits c.sel
  | none => true

/-- Check 4 of R70: the data bits that must be 0 are 0 (R68). An undefined opcode asks nothing of data. -/
def RawCommand.dataLegal (c : RawCommand) : Bool :=
  match opcodeKinds c.op with
  | some (_, k) => k.admits c.data
  | none => true

/-- A legal command word: all four checks of R70 hold. -/
def RawCommand.wellFormed (c : RawCommand) : Bool :=
  c.opcodeDefined && c.rsvZero && c.selLegal && c.dataLegal

end Sys2Proof
end

