-- ==== Sys2Proof/Decode.lean ====
section
/-! DEFINITION. The decoder of command words, total on 64-bit words and rejecting by name (R60 to R71), and after it the
encoder, both from the opcode map of R61. -/

namespace Sys2Proof

/-- Why a word is no command, in the order R70 checks. All four give the same status, ILLEGAL_COMMAND. -/
inductive IllegalWord where
  /-- The opcode is not in the map (R69). -/
  | undefinedOpcode
  /-- rsv is not 0 (R66). -/
  | reservedNonzero
  /-- sel holds no legal value for the opcode (R67). -/
  | selectorIllegal
  /-- A data bit that must be 0 is 1 (R68). -/
  | dataNonzero
deriving DecidableEq, Repr

/-! ## The fields of a word -/

/-- op = bits 63:56 (R60). -/
def opOf (w : Word) : BitVec 8 := w.extractLsb' 56 8

/-- sel = bits 55:52 (R60). -/
def selOf (w : Word) : BitVec 4 := w.extractLsb' 52 4

/-- rsv = bits 51:48 (R60). -/
def rsvOf (w : Word) : BitVec 4 := w.extractLsb' 48 4

/-- data = bits 47:0 (R60). -/
def dataOf (w : Word) : BitVec 48 := w.extractLsb' 0 48

/-- A word cut into its fields (R60). -/
def rawOf (w : Word) : RawCommand := { op := opOf w, sel := selOf w, rsv := rsvOf w, data := dataOf w }

/-! ## The operand fields -/

/-- The width code of sel (R62); 5 to 15 name no register. -/
def widthOfSel (sel : BitVec 4) : Option Width :=
  match sel.toNat with
  | 0 => some .u1
  | 1 => some .u2
  | 2 => some .u3
  | 3 => some .u4
  | 4 => some .u12
  | _ => none

/-- The bank code of sel (R63); 2 to 15 name no bank. -/
def bankOfSel (sel : BitVec 4) : Option Bank :=
  match sel.toNat with
  | 0 => some .h0
  | 1 => some .h1
  | _ => none

/-- A selector the command does not use must be 0 (R67). -/
def unusedSel (sel : BitVec 4) : Option Unit := if sel = 0#4 then some () else none

/-- A data field the command does not use must be 0 (R68). -/
def unusedData (data : BitVec 48) : Option Unit := if data = 0#48 then some () else none

/-- D16: v = data[15:0], data[47:16] must be 0 (R68). -/
def d16OfData (data : BitVec 48) : Option Half :=
  if data.extractLsb' 16 32 = 0#32 then some (data.extractLsb' 0 16) else none

/-- D1: b = data[0], 1 = true, data[47:1] must be 0 (R68). -/
def d1OfData (data : BitVec 48) : Option Bool :=
  if data.extractLsb' 1 47 = 0#47 then some (data.getLsbD 0) else none

/-- The 1-bit selector of HDR_SET_ETYPE: 0 = Empty, 1 = IPv4 (R140). -/
def etherTypeOfBit (b : Bool) : EtherType := if b then .ipv4 else .empty

/-- The D1 operand of HDR_SET_ETYPE read as an enumerator (R140, R158). -/
def etherTypeOfData (data : BitVec 48) : Option EtherType := (d1OfData data).map etherTypeOfBit

/-- D48: m = data[47:0], no bit must be 0 (R68). -/
def d48OfData (data : BitVec 48) : Option Mac := some data

/-! ## The decoder -/

/-- Checks 2, 3 and 4 of R70, in that order, for a word whose opcode is defined; then the command with its operands. -/
def readOperands {α β : Type} (w : Word) (sel : BitVec 4 → Option α) (data : BitVec 48 → Option β) (mk : α → β → Instr) :
    Except IllegalWord Instr :=
  if rsvOf w = 0#4 then
    match sel (selOf w) with
    | none => .error .selectorIllegal
    | some a =>
      match data (dataOf w) with
      | none => .error .dataNonzero
      | some b => .ok (mk a b)
  else .error .reservedNonzero

/-- The decoder: for any 64-bit word exactly one command with its operands, or the reason it is illegal (R61, R70). -/
def decode (w : Word) : Except IllegalWord Instr :=
  match (opOf w).toNat with
  | 0x10 => readOperands w widthOfSel unusedData (fun r _ => .pDefault r)
  | 0x11 => readOperands w widthOfSel d16OfData (fun r v => .pTryFrom r v)
  | 0x12 => readOperands w widthOfSel d16OfData (fun r v => .pSet r v)
  | 0x13 => readOperands w widthOfSel unusedData (fun r _ => .pValue r)
  | 0x14 => readOperands w widthOfSel unusedData (fun r _ => .pIsValid r)
  | 0x15 => readOperands w widthOfSel unusedData (fun r _ => .pMin r)
  | 0x16 => readOperands w widthOfSel unusedData (fun r _ => .pMax r)
  | 0x17 => readOperands w widthOfSel unusedData (fun r _ => .pBits r)
  | 0x20 => readOperands w unusedSel unusedData (fun _ _ => .tagDefault)
  | 0x21 => readOperands w unusedSel d16OfData (fun _ v => .tagNew v)
  | 0x22 => readOperands w unusedSel d16OfData (fun _ v => .tagWrTpid v)
  | 0x23 => readOperands w unusedSel unusedData (fun _ _ => .tagRdTpid)
  | 0x24 => readOperands w unusedSel unusedData (fun _ _ => .tagRdTci)
  | 0x25 => readOperands w unusedSel unusedData (fun _ _ => .tagIsValid)
  | 0x26 => readOperands w unusedSel unusedData (fun _ _ => .tagGetPcp)
  | 0x27 => readOperands w unusedSel d16OfData (fun _ v => .tagSetPcp v)
  | 0x28 => readOperands w unusedSel unusedData (fun _ _ => .tagGetDei)
  | 0x29 => readOperands w unusedSel d1OfData (fun _ b => .tagSetDei b)
  | 0x2A => readOperands w unusedSel unusedData (fun _ _ => .tagGetVid)
  | 0x2B => readOperands w unusedSel d16OfData (fun _ v => .tagSetVid v)
  | 0x30 => readOperands w bankOfSel unusedData (fun h _ => .hdrDefault h)
  | 0x31 => readOperands w bankOfSel d48OfData (fun h m => .hdrWrSrc h m)
  | 0x32 => readOperands w bankOfSel d48OfData (fun h m => .hdrWrDst h m)
  | 0x33 => readOperands w bankOfSel unusedData (fun h _ => .hdrRdSrc h)
  | 0x34 => readOperands w bankOfSel unusedData (fun h _ => .hdrRdDst h)
  | 0x35 => readOperands w bankOfSel unusedData (fun h _ => .hdrSetTag h)
  | 0x36 => readOperands w bankOfSel unusedData (fun h _ => .hdrClrTag h)
  | 0x37 => readOperands w bankOfSel unusedData (fun h _ => .hdrGetTag h)
  | 0x38 => readOperands w bankOfSel etherTypeOfData (fun h e => .hdrSetEtype h e)
  | 0x39 => readOperands w bankOfSel unusedData (fun h _ => .hdrRdEtype h)
  | 0x3A => readOperands w bankOfSel d16OfData (fun h r => .etTryFrom h r)
  | 0x3B => readOperands w unusedSel unusedData (fun _ _ => .hdrEq)
  | _ => .error .undefinedOpcode

/-- The bits of a table row as one command word: a command has one 64-bit word and no byte order (R51, R71), and bits above
`nbits` are 0. -/
def tableWord (nbits w : Nat) : Word := BitVec.ofNat 64 (w % 2 ^ nbits)

/-- What the decoder reads from an instruction whose bits are `w`, as spec/opcode_table.json numbers them. -/
def decodeTableWord (nbits w : Nat) : Option Instr :=
  match decode (tableWord nbits w) with
  | .ok i => some i
  | .error _ => none

/-! ## The encoder -/

/-- The width code (R62). -/
def Width.sel : Width → BitVec 4
  | .u1 => 0
  | .u2 => 1
  | .u3 => 2
  | .u4 => 3
  | .u12 => 4

/-- The bank code (R63). -/
def Bank.sel : Bank → BitVec 4
  | .h0 => 0
  | .h1 => 1

/-- The 1-bit selector of an EtherType enumerator (R140). -/
def EtherType.bit : EtherType → Bool
  | .empty => false
  | .ipv4 => true

/-- A 16-bit operand in the data field, data[47:16] = 0 (R68). -/
def dataOfD16 (v : Half) : BitVec 48 := v.setWidth 48

/-- A one-bit operand in the data field, data[47:1] = 0 (R68). -/
def dataOfD1 (b : Bool) : BitVec 48 := (BitVec.ofBool b).setWidth 48

/-- The command word 0xOOS0DDDDDDDDDDDD with rsv = 0 (R60). -/
def packWord (op : BitVec 8) (sel : BitVec 4) (data : BitVec 48) : Word := op ++ sel ++ 0#4 ++ data

/-- The command word of a command (R61). -/
def encode : Instr → Word
  | .pDefault w => packWord 0x10#8 w.sel 0#48
  | .pTryFrom w v => packWord 0x11#8 w.sel (dataOfD16 v)
  | .pSet w v => packWord 0x12#8 w.sel (dataOfD16 v)
  | .pValue w => packWord 0x13#8 w.sel 0#48
  | .pIsValid w => packWord 0x14#8 w.sel 0#48
  | .pMin w => packWord 0x15#8 w.sel 0#48
  | .pMax w => packWord 0x16#8 w.sel 0#48
  | .pBits w => packWord 0x17#8 w.sel 0#48
  | .tagDefault => packWord 0x20#8 0#4 0#48
  | .tagNew v => packWord 0x21#8 0#4 (dataOfD16 v)
  | .tagWrTpid v => packWord 0x22#8 0#4 (dataOfD16 v)
  | .tagRdTpid => packWord 0x23#8 0#4 0#48
  | .tagRdTci => packWord 0x24#8 0#4 0#48
  | .tagIsValid => packWord 0x25#8 0#4 0#48
  | .tagGetPcp => packWord 0x26#8 0#4 0#48
  | .tagSetPcp v => packWord 0x27#8 0#4 (dataOfD16 v)
  | .tagGetDei => packWord 0x28#8 0#4 0#48
  | .tagSetDei b => packWord 0x29#8 0#4 (dataOfD1 b)
  | .tagGetVid => packWord 0x2A#8 0#4 0#48
  | .tagSetVid v => packWord 0x2B#8 0#4 (dataOfD16 v)
  | .hdrDefault h => packWord 0x30#8 h.sel 0#48
  | .hdrWrSrc h m => packWord 0x31#8 h.sel m
  | .hdrWrDst h m => packWord 0x32#8 h.sel m
  | .hdrRdSrc h => packWord 0x33#8 h.sel 0#48
  | .hdrRdDst h => packWord 0x34#8 h.sel 0#48
  | .hdrSetTag h => packWord 0x35#8 h.sel 0#48
  | .hdrClrTag h => packWord 0x36#8 h.sel 0#48
  | .hdrGetTag h => packWord 0x37#8 h.sel 0#48
  | .hdrSetEtype h e => packWord 0x38#8 h.sel (dataOfD1 e.bit)
  | .hdrRdEtype h => packWord 0x39#8 h.sel 0#48
  | .etTryFrom h r => packWord 0x3A#8 h.sel (dataOfD16 r)
  | .hdrEq => packWord 0x3B#8 0#4 0#48

end Sys2Proof
end

