-- ==== Sys2Proof/Config.lean ====
section
/-! DEFINITION. The three implementation parameters of the block (R9 to R11). Two are left OPEN by the spec: they are opaque
constants, so that nothing proved here rests on a value of theirs. -/

namespace Sys2Proof

/-- The write path of TAG_SET_VID (R9): `clear` is clear-then-OR, `additiveOr` the reference's additive OR. -/
inductive VidSetMode where
  | clear | additiveOr
deriving DecidableEq, Repr

/-- The configuration argument `cfg` of the step relation (R32, R179). -/
structure Params where
  /-- VID_SET_MODE (R9). -/
  vidSetMode : VidSetMode
  /-- TCI_DEFAULT, the TCI of a default-constructed tag (R10). -/
  tciDefault : Half
  /-- MAC_DEFAULT, the value of a default-constructed MAC address (R11). -/
  macDefault : Mac
deriving DecidableEq, Repr

/-- TCI_DEFAULT, left OPEN (R10, D11): a free value. DESIGN CHOICE, safe: assumption 1. -/
opaque Config.tciDefault : Half

/-- MAC_DEFAULT, left OPEN (R11, D12): a free value. DESIGN CHOICE, safe: assumption 2. -/
opaque Config.macDefault : Mac

/-- The spec's own configuration: VID_SET_MODE is CLEAR (R9, D10), the two defaults are open. -/
def Config.params : Params :=
  { vidSetMode := .clear, tciDefault := Config.tciDefault, macDefault := Config.macDefault }

end Sys2Proof
end

