-- ==== Sys2Proof/Machine/State.lean ====
section
/-! DEFINITION. The whole state of the block (R20 to R30, R37), the two words it exchanges with the host, and the machine right
after reset (R34 to R36). -/

namespace Sys2Proof.Machine

/-- An 802.1Q tag: TPID and TCI (R23). TCI layout: PCP = tci[15:13], DEI = tci[12], VID = tci[11:0] (R24). -/
structure Tag where
  tpid : Half
  tci : Half
deriving DecidableEq, Repr

/-- One Ethernet header bank (R26). The tag slot is an option: an absent tag holds no value (R28). -/
structure Header where
  src : Mac
  dst : Mac
  tag : Option Tag
  etype : EtherType
deriving DecidableEq, Repr

/-- The block's own state, complete by R37. The primitive registers have their storage widths N(W) (R4, R20), so that the range
invariant R21 is a fact to prove and not a matter of types. -/
structure Block where
  /-- U1, legal values 0..1 (R20). -/
  u1 : BitVec 8
  /-- U2, legal values 0..3 (R20). -/
  u2 : BitVec 8
  /-- U3, legal values 0..7 (R20). -/
  u3 : BitVec 8
  /-- U4, legal values 0..15 (R20). -/
  u4 : BitVec 8
  /-- U12, legal values 0..4095 (R20). -/
  u12 : BitVec 16
  /-- TAG, the working 802.1Q tag register (R23). -/
  tag : Tag
  /-- Header bank H0 (R26). -/
  h0 : Header
  /-- Header bank H1 (R26). -/
  h1 : Header
deriving DecidableEq, Repr

/-- What the host does between two commands: it issues a command word (R180), or it asserts reset (R190). -/
inductive HostEvent where
  | command (w : Word)
  | reset
deriving DecidableEq, Repr

/-- The outcome of a command (R65). Codes 5 to 15 have no name and are never produced. -/
inductive Status where
  | ok | valueOutOfRange | etherTypeIsLength | unknownEtherType | illegalCommand
deriving DecidableEq, Repr

/-- The machine: the block, its configuration, and the host's side of the command port. R179 writes one step as
`step(cfg, s, c) = (s', r)`: here `blk` is s, `cfg` is cfg, the head of `pending` is c, and `resp` is r. -/
structure State where
  /-- The block's state (R37). -/
  blk : Block
  /-- The configuration inputs, fixed for the life of a run (R32). DESIGN CHOICE, assumption 3. -/
  cfg : Params
  /-- What the host will do next, oldest first (R74, R180, R190). DESIGN CHOICE, assumption 4. -/
  pending : List HostEvent
  /-- The response word of the latest step, none if that step was no command (R64, R190). DESIGN CHOICE, assumption 5. -/
  resp : Option Word
  /-- The host's index of the next command (R33). DESIGN CHOICE, assumption 6. -/
  idx : Nat
deriving DecidableEq, Repr

/-- There is no fault: every word gets one response and the block never traps, halts or gets stuck (R170, R177). Nothing raises
one, so nothing here can be unsafe. -/
inductive Fault where
deriving DecidableEq, Repr

/-- Why the model has no answer. -/
inductive Refusal where
  /-- An instruction without a meaning in this model: raised by an arm of `exec` alone, and by none at present. Safe: nothing
  about such an instruction can be proved. -/
  | notModelled (mnemonic : String)
deriving DecidableEq, Repr

/-- The header bank after reset (R36): both MACs MAC_DEFAULT, no tag, EtherType Empty. -/
def Header.atReset (cfg : Params) : Header :=
  { src := cfg.macDefault, dst := cfg.macDefault, tag := none, etype := .empty }

/-- The block after reset (R34 to R36): primitives 0, TAG = (0x8100, TCI_DEFAULT), both banks default. -/
def Block.atReset (cfg : Params) : Block :=
  { u1 := 0, u2 := 0, u3 := 0, u4 := 0, u12 := 0, tag := { tpid := 0x8100, tci := cfg.tciDefault },
    h0 := Header.atReset cfg, h1 := Header.atReset cfg }

/-- The machine right after reset, in the spec's configuration, with nothing issued by the host yet (R34 to R36, R190, R193). -/
def State.reset : State :=
  { blk := Block.atReset Config.params, cfg := Config.params, pending := [], resp := none, idx := 0 }

end Sys2Proof.Machine
end

