-- ==== Sys2Proof/Machine/Operands.lean ====
section
/-! DEFINITION. The constants of the block and the fields of a TCI word: what the operands of the commands are measured against
and packed into. -/

namespace Sys2Proof.Machine

/-! ## The constant registers of a primitive (R4, R5, R20, R22) -/

/-- BITS(W) = W (R5, R20). -/
def widthBits : Width → Nat
  | .u1 => 1
  | .u2 => 2
  | .u3 => 3
  | .u4 => 4
  | .u12 => 12

/-- N(W), the storage width (R4, R20). -/
def storageBits : Width → Nat
  | .u1 => 8
  | .u2 => 8
  | .u3 => 8
  | .u4 => 8
  | .u12 => 16

/-- MIN_VALUE(W) = 0 (R5). -/
def minValue : Width → Nat
  | .u1 => 0
  | .u2 => 0
  | .u3 => 0
  | .u4 => 0
  | .u12 => 0

/-- MAX_VALUE(W) = 2^W − 1, also MASK(W) (R5). -/
def maxValue (w : Width) : Nat := 2 ^ widthBits w - 1

/-! ## The tag constants and the TCI fields (R24, R25) -/

/-- TPID_STD = 0x8100, hardwired (R6, R25). -/
def tpidStd : Half := 0x8100

/-- The greatest value of the PCP sub-field, 0b111 (R127). -/
def pcpMax : Nat := 7

/-- The greatest value of the VID sub-field, 0xFFF (R131). -/
def vidMax : Nat := 0xFFF

/-- PCP = tci[15:13] (R24, R126). -/
def pcpOf (tci : Half) : BitVec 3 := tci.extractLsb' 13 3

/-- DEI = tci[12] (R24, R128). -/
def deiOf (tci : Half) : BitVec 1 := tci.extractLsb' 12 1

/-- VID = tci[11:0] (R24, R130). -/
def vidOf (tci : Half) : BitVec 12 := tci.extractLsb' 0 12

/-- Clear bits 15:13, then OR v[2:0] into them (R127). -/
def withPcp (tci v : Half) : Half := (tci &&& 0x1FFF) ||| ((v.extractLsb' 0 3).setWidth 16 <<< 13)

/-- Clear bit 12, then OR the boolean into it (R129). -/
def withDei (tci : Half) (b : Bool) : Half := (tci &&& 0xEFFF) ||| ((BitVec.ofBool b).setWidth 16 <<< 12)

/-- The VID write path of R131. CLEAR clears bits 11:0 and then ORs v[11:0]; OR only ORs. -/
def withVid (mode : VidSetMode) (tci v : Half) : Half :=
  match mode with
  | .clear => (tci &&& 0xF000) ||| (v.extractLsb' 0 12).setWidth 16
  | .additiveOr => tci ||| (v.extractLsb' 0 12).setWidth 16

/-! ## EtherType (R7, R140, R141) -/

/-- The 16-bit code of an enumerator (R140). -/
def etherCode : EtherType → Half
  | .empty => 0x0000
  | .ipv4 => 0x0800

/-- The greatest raw EtherType that is a frame length (R141). -/
def lengthMax : Nat := 1500

end Sys2Proof.Machine
end

