-- ==== Sys2Proof/Machine/Flags.lean ====
section
/-! DEFINITION. The block has no status flag and no condition code (R31). What stands in their place is computed here: the
status of a command, its response word, and the three checks a legal command can fail (R64, R65, R171). -/

namespace Sys2Proof.Machine

/-- The status codes (R65). -/
def statusCode : Status → BitVec 4
  | .ok => 0
  | .valueOutOfRange => 1
  | .etherTypeIsLength => 2
  | .unknownEtherType => 3
  | .illegalCommand => 4

/-- The response word: status in 63:60, zero in 59:48, rdata in 47:0 (R64). -/
def respWord (st : Status) (rd : RData) : Word := statusCode st ++ 0#12 ++ rd

/-- The status field of a response word (R64). -/
def respStatus (r : Word) : BitVec 4 := r.extractLsb' 60 4

/-- The read data of a response word (R64). -/
def respData (r : Word) : RData := r.extractLsb' 0 48

/-- A boolean result: 1 for true, 0 for false (R64). -/
def boolData (b : Bool) : RData := if b then 1 else 0

/-- The bounds check of a primitive: v ≤ MAX_VALUE(W), unsigned (R101, R102, R104, R111). -/
def inRange (w : Width) (v : Half) : Bool := decide (v.toNat ≤ maxValue w)

/-- TAG_ISVALID's predicate: the TPID is the standard one; the TCI plays no part (R125). -/
def tagValid (t : Tag) : Bool := decide (t.tpid = tpidStd)

/-- The three-way classification of a raw EtherType, the tests in the order R141 gives (R142, R173). -/
def classify (r : Half) : Except Status EtherType :=
  if r.toNat ≤ lengthMax then .error .etherTypeIsLength
  else if r = etherCode .ipv4 then .ok .ipv4
  else .error .unknownEtherType

/-- tagEq of R160: two absent tags are equal, present tags are compared field by field, absent never equals present. -/
def tagSlotEq : Option Tag → Option Tag → Bool
  | none, none => true
  | some a, some b => decide (a.tpid = b.tpid) && decide (a.tci = b.tci)
  | _, _ => false

/-- Structural equality of two headers: all four fields (R160). -/
def headerEq (a b : Header) : Bool :=
  decide (a.src = b.src) && decide (a.dst = b.dst) && tagSlotEq a.tag b.tag && decide (a.etype = b.etype)

end Sys2Proof.Machine
end

