-- ==== Sys2Proof/Machine/Ops.lean ====
section
/-! DEFINITION. The named operations over the registers, the two ways a command ends (`respond`, and `raise` for every error:
the block has no trap, so `raise` is all there is of taking an exception, R170, R172, R177), and what the host can do. -/

namespace Sys2Proof.Machine

/-- The answer of a step or a meaning. -/
abbrev Result := Host.Outcome State Fault Refusal

/-! ## Registers -/

/-- Read U[w], zero-extended to 16 bits (R20, R53). -/
def readPrim (b : Block) : Width → Half
  | .u1 => b.u1.setWidth 16
  | .u2 => b.u2.setWidth 16
  | .u3 => b.u3.setWidth 16
  | .u4 => b.u4.setWidth 16
  | .u12 => b.u12

/-- U[w] <- v[N-1:0]; no other register changes (R20, R101, R110). -/
def writePrim (b : Block) (w : Width) (v : Half) : Block :=
  match w with
  | .u1 => { b with u1 := v.setWidth 8 }
  | .u2 => { b with u2 := v.setWidth 8 }
  | .u3 => { b with u3 := v.setWidth 8 }
  | .u4 => { b with u4 := v.setWidth 8 }
  | .u12 => { b with u12 := v }

/-- TAG <- t (R23). -/
def writeTag (b : Block) (t : Tag) : Block := { b with tag := t }

/-- TAG.tpid <- v; TAG.tci is left alone (R122). -/
def writeTpid (b : Block) (v : Half) : Block := { b with tag := { b.tag with tpid := v } }

/-- TAG.tci <- v; TAG.tpid is left alone (R127, R129, R131). -/
def writeTci (b : Block) (v : Half) : Block := { b with tag := { b.tag with tci := v } }

/-- Read header bank h (R26). -/
def readHdr (b : Block) : Bank → Header
  | .h0 => b.h0
  | .h1 => b.h1

/-- Write header bank h; the other bank is left alone (R26, R30). -/
def writeHdr (b : Block) (h : Bank) (hd : Header) : Block :=
  match h with
  | .h0 => { b with h0 := hd }
  | .h1 => { b with h1 := hd }

/-- H[h].src <- m (R151). -/
def writeSrc (b : Block) (h : Bank) (m : Mac) : Block := writeHdr b h { readHdr b h with src := m }

/-- H[h].dst <- m (R152). -/
def writeDst (b : Block) (h : Bank) (m : Mac) : Block := writeHdr b h { readHdr b h with dst := m }

/-- H[h].tag <- t (R155, R156). -/
def writeSlot (b : Block) (h : Bank) (t : Option Tag) : Block := writeHdr b h { readHdr b h with tag := t }

/-- H[h].etype <- e (R141, R158). -/
def writeEtype (b : Block) (h : Bank) (e : EtherType) : Block := writeHdr b h { readHdr b h with etype := e }

/-! ## How a command ends -/

/-- `respond(st, rd)`: the command ends with block state `b`, and the response word goes to the host (R53, R64). -/
def respond (s : State) (b : Block) (st : Status) (rd : RData) : Result :=
  .next { s with blk := b, resp := some (respWord st rd) }

/-- A command that reads and writes no state: `respond(OK, rd)`. -/
def respondRead (s : State) (rd : RData) : Result := respond s s.blk .ok rd

/-- A command that writes state and returns nothing: `respond(OK, 0)`. -/
def respondWrite (s : State) (b : Block) : Result := respond s b .ok 0

/-- `raise E`: the response is (E, 0) and no state is written (R172). -/
def raise (s : State) (e : Status) : Result := respond s s.blk e 0

/-! ## What the host does (R180, R190) -/

/-- The host issues the command at the head of its list: the command leaves the list and the index moves on by exactly 1,
whatever the status will be (R33, R74). -/
def issue (s : State) (rest : List HostEvent) : State := { s with pending := rest, idx := s.idx + 1 }

/-- A word that is no command: ILLEGAL_COMMAND, nothing written (R66 to R70). -/
def illegalCommand (s : State) : Result := raise s .illegalCommand

/-- Reset between commands: every state field to its reset value, no response, configuration unchanged (R190, R191). -/
def hostReset (s : State) (rest : List HostEvent) : Result :=
  .next { s with blk := Block.atReset s.cfg, pending := rest, resp := none }

/-- The host has stopped issuing commands: the block has no halt state, it waits, and there is no response (R180). -/
def idle (s : State) : Result := .next { s with resp := none }

end Sys2Proof.Machine
end

