-- ==== Sys2Proof/Machine/Classifier.lean ====
section
/-! DEFINITION. The EtherType classifier command, opcode 0x3A (R141, R142). -/

namespace Sys2Proof.Machine

/-- ET_TRYFROM (R141): on success the enumerator is stored in H[h].etype and its code returned; on failure nothing is stored. -/
def execEtTryFrom (h : Bank) (r : Half) (s : State) : Result :=
  match classify r with
  | .ok e => respond s (writeEtype s.blk h e) .ok ((etherCode e).setWidth 48)
  | .error st => raise s st

end Sys2Proof.Machine
end

