-- ==== Sys2Proof/Machine/EthHeader.lean ====
section
/-! DEFINITION. The Ethernet header register file commands, opcodes 0x30 to 0x39 and 0x3B (R150 to R160). -/

namespace Sys2Proof.Machine

/-- HDR_DEFAULT (R150): both MACs MAC_DEFAULT, no tag, EtherType Empty. -/
def execHdrDefault (h : Bank) (s : State) : Result :=
  respondWrite s (writeHdr s.blk h { src := s.cfg.macDefault, dst := s.cfg.macDefault, tag := none, etype := .empty })

/-- HDR_WR_SRC (R151). -/
def execHdrWrSrc (h : Bank) (m : Mac) (s : State) : Result := respondWrite s (writeSrc s.blk h m)

/-- HDR_WR_DST (R152). -/
def execHdrWrDst (h : Bank) (m : Mac) (s : State) : Result := respondWrite s (writeDst s.blk h m)

/-- HDR_RD_SRC (R153). -/
def execHdrRdSrc (h : Bank) (s : State) : Result := respondRead s (readHdr s.blk h).src

/-- HDR_RD_DST (R154). -/
def execHdrRdDst (h : Bank) (s : State) : Result := respondRead s (readHdr s.blk h).dst

/-- HDR_SET_TAG (R155): a copy of TAG, by value. -/
def execHdrSetTag (h : Bank) (s : State) : Result := respondWrite s (writeSlot s.blk h (some s.blk.tag))

/-- HDR_CLR_TAG (R156). -/
def execHdrClrTag (h : Bank) (s : State) : Result := respondWrite s (writeSlot s.blk h none)

/-- The read data of HDR_GET_TAG for a present tag: rdata[32] = 1, rdata[31:16] = TPID, rdata[15:0] = TCI (R157). -/
def presentTagData (t : Tag) : RData :=
  (1#48 <<< 32) ||| (t.tpid.setWidth 48 <<< 16) ||| t.tci.setWidth 48

/-- HDR_GET_TAG (R157): a present tag is copied into TAG and reported; an absent tag is no error and leaves TAG alone. -/
def execHdrGetTag (h : Bank) (s : State) : Result :=
  match (readHdr s.blk h).tag with
  | some t => respond s (writeTag s.blk t) .ok (presentTagData t)
  | none => respondRead s 0

/-- HDR_SET_ETYPE (R158). -/
def execHdrSetEtype (h : Bank) (e : EtherType) (s : State) : Result := respondWrite s (writeEtype s.blk h e)

/-- HDR_RD_ETYPE (R159). -/
def execHdrRdEtype (h : Bank) (s : State) : Result := respondRead s ((etherCode (readHdr s.blk h).etype).setWidth 48)

/-- HDR_EQ (R160): always H0 against H1. -/
def execHdrEq (s : State) : Result := respondRead s (boolData (headerEq s.blk.h0 s.blk.h1))

end Sys2Proof.Machine
end

