-- ==== Sys2Proof/Machine/Primitive.lean ====
section
/-! DEFINITION. The fixed-width primitive commands, opcodes 0x10 to 0x17 (R100 to R107). -/

namespace Sys2Proof.Machine

/-- P_DEFAULT (R100): U[w] <- 0. -/
def execPDefault (w : Width) (s : State) : Result := respondWrite s (writePrim s.blk w 0#16)

/-- P_TRYFROM (R101): the bounds check, then the store; rdata is the value constructed. -/
def execPTryFrom (w : Width) (v : Half) (s : State) : Result :=
  if inRange w v then respond s (writePrim s.blk w v) .ok (v.setWidth 48) else raise s .valueOutOfRange

/-- P_SET (R102): the same check and store; rdata is 0. -/
def execPSet (w : Width) (v : Half) (s : State) : Result :=
  if inRange w v then respondWrite s (writePrim s.blk w v) else raise s .valueOutOfRange

/-- P_VALUE (R103). -/
def execPValue (w : Width) (s : State) : Result := respondRead s ((readPrim s.blk w).setWidth 48)

/-- P_ISVALID (R104): the comparison is computed; that it is always 1 is a theorem about reachable states (R21). -/
def execPIsValid (w : Width) (s : State) : Result := respondRead s (boolData (inRange w (readPrim s.blk w)))

/-- P_MIN (R105). -/
def execPMin (w : Width) (s : State) : Result := respondRead s (BitVec.ofNat 48 (minValue w))

/-- P_MAX (R106). -/
def execPMax (w : Width) (s : State) : Result := respondRead s (BitVec.ofNat 48 (maxValue w))

/-- P_BITS (R107). -/
def execPBits (w : Width) (s : State) : Result := respondRead s (BitVec.ofNat 48 (widthBits w))

end Sys2Proof.Machine
end

