-- ==== Sys2Proof/Machine/TagCodec.lean ====
section
/-! DEFINITION. The 802.1Q tag codec commands on the working tag register, opcodes 0x20 to 0x2B (R120 to R131). -/

namespace Sys2Proof.Machine

/-- TAG_DEFAULT (R120): the standard TPID and TCI_DEFAULT. -/
def execTagDefault (s : State) : Result := respondWrite s (writeTag s.blk { tpid := tpidStd, tci := s.cfg.tciDefault })

/-- TAG_NEW (R121): the standard TPID and the raw TCI, unchecked. -/
def execTagNew (v : Half) (s : State) : Result := respondWrite s (writeTag s.blk { tpid := tpidStd, tci := v })

/-- TAG_WR_TPID (R122): any 16-bit TPID. -/
def execTagWrTpid (v : Half) (s : State) : Result := respondWrite s (writeTpid s.blk v)

/-- TAG_RD_TPID (R123). -/
def execTagRdTpid (s : State) : Result := respondRead s (s.blk.tag.tpid.setWidth 48)

/-- TAG_RD_TCI (R124). -/
def execTagRdTci (s : State) : Result := respondRead s (s.blk.tag.tci.setWidth 48)

/-- TAG_ISVALID (R125). -/
def execTagIsValid (s : State) : Result := respondRead s (boolData (tagValid s.blk.tag))

/-- TAG_GET_PCP (R126). -/
def execTagGetPcp (s : State) : Result := respondRead s ((pcpOf s.blk.tag.tci).setWidth 48)

/-- TAG_SET_PCP (R127). -/
def execTagSetPcp (v : Half) (s : State) : Result :=
  if v.toNat ≤ pcpMax then respondWrite s (writeTci s.blk (withPcp s.blk.tag.tci v)) else raise s .valueOutOfRange

/-- TAG_GET_DEI (R128). -/
def execTagGetDei (s : State) : Result := respondRead s ((deiOf s.blk.tag.tci).setWidth 48)

/-- TAG_SET_DEI (R129). -/
def execTagSetDei (b : Bool) (s : State) : Result := respondWrite s (writeTci s.blk (withDei s.blk.tag.tci b))

/-- TAG_GET_VID (R130). -/
def execTagGetVid (s : State) : Result := respondRead s ((vidOf s.blk.tag.tci).setWidth 48)

/-- TAG_SET_VID (R131): the range check in both modes, then the write path VID_SET_MODE selects. -/
def execTagSetVid (v : Half) (s : State) : Result :=
  if v.toNat ≤ vidMax then respondWrite s (writeTci s.blk (withVid s.cfg.vidSetMode s.blk.tag.tci v))
  else raise s .valueOutOfRange

end Sys2Proof.Machine
end

