-- ==== Sys2Proof/Machine/Dispatch.lean ====
section
/-! DEFINITION. One arm per command (R61): each calls the command's own meaning. -/

namespace Sys2Proof.Machine

def exec (i : Instr) (s : State) : Host.Outcome State Fault Refusal :=
  match i with
  | .pDefault w => Sys2Proof.Machine.execPDefault w s
  | .pTryFrom w v => Sys2Proof.Machine.execPTryFrom w v s
  | .pSet w v => Sys2Proof.Machine.execPSet w v s
  | .pValue w => Sys2Proof.Machine.execPValue w s
  | .pIsValid w => Sys2Proof.Machine.execPIsValid w s
  | .pMin w => Sys2Proof.Machine.execPMin w s
  | .pMax w => Sys2Proof.Machine.execPMax w s
  | .pBits w => Sys2Proof.Machine.execPBits w s
  | .tagDefault => Sys2Proof.Machine.execTagDefault s
  | .tagNew v => Sys2Proof.Machine.execTagNew v s
  | .tagWrTpid v => Sys2Proof.Machine.execTagWrTpid v s
  | .tagRdTpid => Sys2Proof.Machine.execTagRdTpid s
  | .tagRdTci => Sys2Proof.Machine.execTagRdTci s
  | .tagIsValid => Sys2Proof.Machine.execTagIsValid s
  | .tagGetPcp => Sys2Proof.Machine.execTagGetPcp s
  | .tagSetPcp v => Sys2Proof.Machine.execTagSetPcp v s
  | .tagGetDei => Sys2Proof.Machine.execTagGetDei s
  | .tagSetDei b => Sys2Proof.Machine.execTagSetDei b s
  | .tagGetVid => Sys2Proof.Machine.execTagGetVid s
  | .tagSetVid v => Sys2Proof.Machine.execTagSetVid v s
  | .hdrDefault h => Sys2Proof.Machine.execHdrDefault h s
  | .hdrWrSrc h m => Sys2Proof.Machine.execHdrWrSrc h m s
  | .hdrWrDst h m => Sys2Proof.Machine.execHdrWrDst h m s
  | .hdrRdSrc h => Sys2Proof.Machine.execHdrRdSrc h s
  | .hdrRdDst h => Sys2Proof.Machine.execHdrRdDst h s
  | .hdrSetTag h => Sys2Proof.Machine.execHdrSetTag h s
  | .hdrClrTag h => Sys2Proof.Machine.execHdrClrTag h s
  | .hdrGetTag h => Sys2Proof.Machine.execHdrGetTag h s
  | .hdrSetEtype h e => Sys2Proof.Machine.execHdrSetEtype h e s
  | .hdrRdEtype h => Sys2Proof.Machine.execHdrRdEtype h s
  | .etTryFrom h r => Sys2Proof.Machine.execEtTryFrom h r s
  | .hdrEq => Sys2Proof.Machine.execHdrEq s

end Sys2Proof.Machine
end

