-- ==== Sys2Proof/Machine/Step.lean ====
section
/-! DEFINITION. One step: the block takes what the host does next (R179, R180, R190). A command is one indivisible step (R53). -/

namespace Sys2Proof.Machine

/-- One step of the machine. A legal word runs its command, an illegal one answers ILLEGAL_COMMAND, a reset event resets the
block, and with nothing issued the block waits. -/
def step (s : State) : Host.Outcome State Fault Refusal :=
  match s.pending with
  | [] => idle s
  | .reset :: rest => hostReset s rest
  | .command w :: rest =>
    match decode w with
    | .ok i => exec i (issue s rest)
    | .error _ => illegalCommand (issue s rest)

/-- `s` with the host about to issue the command word whose bits are `w`; whatever it had listed comes after it. -/
def State.withFetchWord (s : State) (nbits w : Nat) : State :=
  { s with pending := .command (tableWord nbits w) :: s.pending }

end Sys2Proof.Machine
end

