-- ==== Sys2Proof/Machine/Assembler.lean ====
section
/-! DEFINITION. The host's tools the spec describes: the pseudo-instructions (R73), the host that issues a list of words and
stops at the first status that is not OK (R73, R74, R180), and the assembler syntax of one line (R72). -/

namespace Sys2Proof.Machine

/-! ## Pseudo-instructions (R73) -/

/-- The three pseudo-instructions. -/
inductive Pseudo where
  | tagLoad (tpid tci : Half)
  | hdrNew (h : Bank) (src dst : Mac) (e : EtherType)
  | hdrNewTagged (h : Bank) (src dst : Mac) (e : EtherType)
deriving DecidableEq, Repr

/-- HDR_NEW: default, source, destination, EtherType, in that order (R73). -/
def expandHdrNew (h : Bank) (src dst : Mac) (e : EtherType) : List Instr :=
  [.hdrDefault h, .hdrWrSrc h src, .hdrWrDst h dst, .hdrSetEtype h e]

/-- The commands a pseudo-instruction expands to (R73). -/
def expandPseudo : Pseudo → List Instr
  | .tagLoad tpid tci => [.tagNew tci, .tagWrTpid tpid]
  | .hdrNew h src dst e => expandHdrNew h src dst e
  | .hdrNewTagged h src dst e => expandHdrNew h src dst e ++ [.hdrSetTag h]

/-! ## The host issuing words (R74, R180) -/

/-- The response of the latest step has status OK (R65). -/
def lastOk (s : State) : Bool :=
  match s.resp with
  | some r => decide (respStatus r = statusCode .ok)
  | none => false

/-- The host issues the words one at a time, reads each response, and stops at the first status that is not OK (R73). -/
def issueUntilError : List Word → State → Result
  | [], s => .next s
  | w :: ws, s =>
    match step { s with pending := .command w :: s.pending } with
    | .next t => if lastOk t then issueUntilError ws t else .next t
    | .fault r => .fault r
    | .refused r => .refused r

/-- A pseudo-instruction: its expansion, issued until the first status that is not OK (R73). -/
def runPseudo (p : Pseudo) (s : State) : Result := issueUntilError ((expandPseudo p).map encode) s

/-! ## Assembler syntax (R72) -/

/-- A token of a source line. -/
abbrev Token := List Char

/-- Blank characters between tokens. DESIGN CHOICE, assumption 8. -/
def isBlank (c : Char) : Bool := c == ' ' || c == '\t'

/-- A comment runs from `;` to the end of the line (R72). -/
def dropComment (line : Token) : Token := line.takeWhile (fun c => c != ';')

/-- The token without the blanks on both sides. -/
def trimBlanks (t : Token) : Token := ((t.dropWhile isBlank).reverse.dropWhile isBlank).reverse

/-- The parts of a token between commas. -/
def splitCommas : Token → List Token
  | [] => [[]]
  | c :: cs =>
    if c == ',' then [] :: splitCommas cs
    else
      match splitCommas cs with
      | [] => [[c]]
      | t :: ts => (c :: t) :: ts

/-- The value of a digit character, hexadecimal digits in either case. DESIGN CHOICE, assumption 8. -/
def digitValue (c : Char) : Option Nat :=
  if '0'.toNat ≤ c.toNat ∧ c.toNat ≤ '9'.toNat then some (c.toNat - '0'.toNat)
  else if 'a'.toNat ≤ c.toNat ∧ c.toNat ≤ 'f'.toNat then some (c.toNat - 'a'.toNat + 10)
  else if 'A'.toNat ≤ c.toNat ∧ c.toNat ≤ 'F'.toNat then some (c.toNat - 'A'.toNat + 10)
  else none

/-- The digits of a numeral in a base, most significant first, onto the value read so far. -/
def digitsValue (base : Nat) : Token → Nat → Option Nat
  | [], acc => some acc
  | c :: cs, acc =>
    match digitValue c with
    | some d => if d < base then digitsValue base cs (acc * base + d) else none
    | none => none

/-- A numeral has at least one digit. -/
def numeralInBase (base : Nat) (digits : Token) : Option Nat :=
  match digits with
  | [] => none
  | c :: cs => digitsValue base (c :: cs) 0

/-- A numeral: decimal, `0x` hexadecimal or `0b` binary (R72). -/
def parseNumeral : Token → Option Nat
  | '0' :: 'x' :: ds => numeralInBase 16 ds
  | '0' :: 'b' :: ds => numeralInBase 2 ds
  | ds => numeralInBase 10 ds

/-- A width name (R72). -/
def parseWidth (t : Token) : Option Width :=
  if t = ['U', '1'] then some .u1
  else if t = ['U', '2'] then some .u2
  else if t = ['U', '3'] then some .u3
  else if t = ['U', '4'] then some .u4
  else if t = ['U', '1', '2'] then some .u12
  else none

/-- A bank name (R72). -/
def parseBank (t : Token) : Option Bank :=
  if t = ['H', '0'] then some .h0 else if t = ['H', '1'] then some .h1 else none

/-- A D16 value 0..65535; the assembler refuses a greater one (R72). -/
def parseD16 (t : Token) : Option Half :=
  match parseNumeral t with
  | some n => if n ≤ 65535 then some (BitVec.ofNat 16 n) else none
  | none => none

/-- A D1 boolean: 0, 1, false, true (R72). -/
def parseD1 (t : Token) : Option Bool :=
  if t = ['0'] || t = "false".toList then some false
  else if t = ['1'] || t = "true".toList then some true
  else none

/-- An EtherType enumerator: EMPTY, IPV4, or the D1 boolean that encodes it (R72). DEDUCED, assumption 8. -/
def parseEtherType (t : Token) : Option EtherType :=
  if t = "EMPTY".toList then some .empty
  else if t = "IPV4".toList then some .ipv4
  else (parseD1 t).map etherTypeOfBit

/-- A D48 MAC: `0x` and up to 12 hexadecimal digits (R72). -/
def parseMac : Token → Option Mac
  | '0' :: 'x' :: ds =>
    if ds.length ≤ 12 then (numeralInBase 16 ds).map (BitVec.ofNat 48) else none
  | _ => none

/-- The operands of a source line, turned into the commands they select. -/
abbrev OperandParser := List Token → Option (List Instr)

/-- No operand. -/
def takeNone (i : Instr) : OperandParser
  | [] => some [i]
  | _ => none

/-- One operand. -/
def takeOne {α : Type} (p : Token → Option α) (mk : α → Instr) : OperandParser
  | [a] => (p a).map (fun x => [mk x])
  | _ => none

/-- Two operands: the selector, then the data operand (R72). -/
def takeTwo {α β : Type} (p : Token → Option α) (q : Token → Option β) (mk : α → β → Instr) : OperandParser
  | [a, b] => (p a).bind (fun x => (q b).map (fun y => [mk x y]))
  | _ => none

/-- TAG_LOAD tpid, tci (R73). -/
def takeTagLoad : OperandParser
  | [a, b] => (parseD16 a).bind (fun x => (parseD16 b).map (fun y => expandPseudo (.tagLoad x y)))
  | _ => none

/-- HDR_NEW Hh, src, dst, et and HDR_NEW_TAGGED (R73). -/
def takeHdrNew (mk : Bank → Mac → Mac → EtherType → Pseudo) : OperandParser
  | [a, b, c, d] =>
    (parseBank a).bind (fun h => (parseMac b).bind (fun src => (parseMac c).bind (fun dst =>
      (parseEtherType d).map (fun e => expandPseudo (mk h src dst e)))))
  | _ => none

/-- The mnemonics with their operands (R61, R72, R73). -/
def asmTable : List (String × OperandParser) :=
  [ ("P_DEFAULT", takeOne parseWidth .pDefault), ("P_TRYFROM", takeTwo parseWidth parseD16 .pTryFrom),
    ("P_SET", takeTwo parseWidth parseD16 .pSet), ("P_VALUE", takeOne parseWidth .pValue),
    ("P_ISVALID", takeOne parseWidth .pIsValid), ("P_MIN", takeOne parseWidth .pMin),
    ("P_MAX", takeOne parseWidth .pMax), ("P_BITS", takeOne parseWidth .pBits) ] ++
  [ ("TAG_DEFAULT", takeNone .tagDefault), ("TAG_NEW", takeOne parseD16 .tagNew),
    ("TAG_WR_TPID", takeOne parseD16 .tagWrTpid), ("TAG_RD_TPID", takeNone .tagRdTpid),
    ("TAG_RD_TCI", takeNone .tagRdTci), ("TAG_ISVALID", takeNone .tagIsValid),
    ("TAG_GET_PCP", takeNone .tagGetPcp), ("TAG_SET_PCP", takeOne parseD16 .tagSetPcp),
    ("TAG_GET_DEI", takeNone .tagGetDei), ("TAG_SET_DEI", takeOne parseD1 .tagSetDei),
    ("TAG_GET_VID", takeNone .tagGetVid), ("TAG_SET_VID", takeOne parseD16 .tagSetVid) ] ++
  [ ("HDR_DEFAULT", takeOne parseBank .hdrDefault), ("HDR_WR_SRC", takeTwo parseBank parseMac .hdrWrSrc),
    ("HDR_WR_DST", takeTwo parseBank parseMac .hdrWrDst), ("HDR_RD_SRC", takeOne parseBank .hdrRdSrc),
    ("HDR_RD_DST", takeOne parseBank .hdrRdDst), ("HDR_SET_TAG", takeOne parseBank .hdrSetTag),
    ("HDR_CLR_TAG", takeOne parseBank .hdrClrTag), ("HDR_GET_TAG", takeOne parseBank .hdrGetTag),
    ("HDR_SET_ETYPE", takeTwo parseBank parseEtherType .hdrSetEtype), ("HDR_RD_ETYPE", takeOne parseBank .hdrRdEtype),
    ("ET_TRYFROM", takeTwo parseBank parseD16 .etTryFrom), ("HDR_EQ", takeNone .hdrEq) ] ++
  [ ("TAG_LOAD", takeTagLoad), ("HDR_NEW", takeHdrNew .hdrNew), ("HDR_NEW_TAGGED", takeHdrNew .hdrNewTagged) ]

/-- The operand tokens after the mnemonic; nothing after it means no operand. -/
def operandTokens (t : Token) : List Token :=
  match trimBlanks t with
  | [] => []
  | c :: cs => (splitCommas (c :: cs)).map trimBlanks

/-- One source line: the commands it stands for, none where the assembler refuses it; a line that is blank but for a comment
stands for no command (R72). -/
def parseLine (line : Token) : Option (List Instr) :=
  match trimBlanks (dropComment line) with
  | [] => some []
  | c :: cs =>
    match asmTable.find? (fun row => row.1.toList == (c :: cs).takeWhile (fun x => !isBlank x)) with
    | some row => row.2 (operandTokens ((c :: cs).dropWhile (fun x => !isBlank x)))
    | none => none

/-- The command words of one source line (R72). -/
def assembleLine (line : String) : Option (List Word) := (parseLine line.toList).map (fun is => is.map encode)

/-- A program: the words of its lines, in order; refused if a line is refused (R72, R74). -/
def assembleProgram : List String → Option (List Word)
  | [] => some []
  | l :: ls => (assembleLine l).bind (fun ws => (assembleProgram ls).map (fun rest => ws ++ rest))

end Sys2Proof.Machine
end

