-- ==== Sys2Proof/Safety.lean ====
section
/-! DEFINITION. The terms the statements are written in: what a response says, what a command leaves alone, the invariant of
the block, runs of host events, the sub-field setters of a tag, and the renaming of MAC addresses. Responses and encodings are
written as numbers here, apart from the bit-vector expressions the machine builds them with. -/

namespace Sys2Proof.Machine

/-! ## Words as numbers -/

/-- The latest response, as the model's response port shows it (assumption 5), has this status code and this read data, and 0 in
bits 59:48 (R64). -/
def responds (t : State) (status rdata : Nat) : Prop :=
  ∃ r : Word, t.resp = some r ∧ r.toNat = status * 2 ^ 60 + rdata

/-- The command's word, from its fields: op[63:56], sel[55:52], rsv = 0, data[47:0] (R60). -/
def encodesTo (i : Instr) (op sel data : Nat) : Prop := (encode i).toNat = op * 2 ^ 56 + sel * 2 ^ 52 + data

/-- The width code as a number (R62). -/
def widthIndex (w : Width) : Nat := (Width.sel w).toNat

/-- The bank code as a number (R63). -/
def bankIndex (h : Bank) : Nat := (Bank.sel h).toNat

/-! ## Frames -/

/-- The configuration, the host's list and the host's index are as before: the model's own fields (assumptions 3, 4 and 6). -/
def hostSideKept (s t : State) : Prop := t.cfg = s.cfg ∧ t.pending = s.pending ∧ t.idx = s.idx

/-- All five primitive registers are as before. -/
def primsKept (b c : Block) : Prop := c.u1 = b.u1 ∧ c.u2 = b.u2 ∧ c.u3 = b.u3 ∧ c.u4 = b.u4 ∧ c.u12 = b.u12

/-- Nothing but the response has changed. -/
def blockKept (s t : State) : Prop := hostSideKept s t ∧ t.blk = s.blk

/-- Nothing but U[w] and the response has changed. -/
def keptButPrim (w : Width) (s t : State) : Prop :=
  hostSideKept s t ∧ (∀ w', w' ≠ w → readPrim t.blk w' = readPrim s.blk w') ∧
    t.blk.tag = s.blk.tag ∧ t.blk.h0 = s.blk.h0 ∧ t.blk.h1 = s.blk.h1

/-- Nothing but TAG and the response has changed. -/
def keptButTag (s t : State) : Prop :=
  hostSideKept s t ∧ primsKept s.blk t.blk ∧ t.blk.h0 = s.blk.h0 ∧ t.blk.h1 = s.blk.h1

/-- Nothing but header bank h and the response has changed. -/
def keptButHdr (h : Bank) (s t : State) : Prop :=
  hostSideKept s t ∧ primsKept s.blk t.blk ∧ t.blk.tag = s.blk.tag ∧
    ∀ h', h' ≠ h → readHdr t.blk h' = readHdr s.blk h'

/-! ## The invariant -/

/-- Every primitive register is at most its MAX_VALUE (R21). -/
def primsInRange (b : Block) : Prop := ∀ w, (readPrim b w).toNat ≤ 2 ^ widthBits w - 1

/-- A response the block may give: one of the five statuses of R65, bits 59:48 zero, and rdata 0 unless the status is OK (R64). -/
def legalResponse (r : Word) : Prop :=
  ∃ status rdata : Nat, r.toNat = status * 2 ^ 60 + rdata ∧ status ≤ 4 ∧ rdata < 2 ^ 48 ∧ (status ≠ 0 → rdata = 0)

/-- The invariant of the machine: registers in range (R21), and the response port shows a legal response or none (R64, R65). -/
def Inv (s : State) : Prop := primsInRange s.blk ∧ ∀ r, s.resp = some r → legalResponse r

/-! ## Runs -/

/-- The response the next step reads as its own: nothing of the port but cfg, the block and one word goes in (R179). -/
def portStep (cfg : Params) (b : Block) (c : Word) : Block × Option Word :=
  match step { blk := b, cfg := cfg, pending := [.command c], resp := none, idx := 0 } with
  | .next t => (t.blk, t.resp)
  | .fault _ => (b, none)
  | .refused _ => (b, none)

/-- What one host event makes of the block and the response: a command is one port step, reset gives the reset values and no
response (R179, R190). -/
def eventStep (cfg : Params) (b : Block) : HostEvent → Block × Option Word
  | .command c => portStep cfg b c
  | .reset => (Block.atReset cfg, none)

/-- The block and the latest response after a list of host events, in order (R56). -/
def eventsStep (cfg : Params) : Block → Option Word → List HostEvent → Block × Option Word
  | b, r, [] => (b, r)
  | b, _, e :: es => eventsStep cfg (eventStep cfg b e).1 (eventStep cfg b e).2 es

/-- How many of the events are commands. -/
def commandCount : List HostEvent → Nat
  | [] => 0
  | .command _ :: es => commandCount es + 1
  | .reset :: es => commandCount es

/-- The host issues these commands next, each as its word. -/
def issuing (is : List Instr) (s : State) : State :=
  { s with pending := is.map (fun i => HostEvent.command (encode i)) ++ s.pending }

/-- The machine after the host has issued these commands and the block has run each. -/
def runCommands (is : List Instr) (s : State) : Result := Host.Core.run Sys2Proof.core is.length (issuing is s)

/-! ## Classes of commands -/

/-- The read commands of R54, HDR_GET_TAG left out. -/
def readsOnly : Instr → Bool
  | .pValue _ => true
  | .pIsValid _ => true
  | .pMin _ => true
  | .pMax _ => true
  | .pBits _ => true
  | .tagRdTpid => true
  | .tagRdTci => true
  | .tagIsValid => true
  | .tagGetPcp => true
  | .tagGetDei => true
  | .tagGetVid => true
  | .hdrRdSrc _ => true
  | .hdrRdDst _ => true
  | .hdrRdEtype _ => true
  | .hdrEq => true
  | .pDefault _ => false
  | .pTryFrom _ _ => false
  | .pSet _ _ => false
  | .tagDefault => false
  | .tagNew _ => false
  | .tagWrTpid _ => false
  | .tagSetPcp _ => false
  | .tagSetDei _ => false
  | .tagSetVid _ => false
  | .hdrDefault _ => false
  | .hdrWrSrc _ _ => false
  | .hdrWrDst _ _ => false
  | .hdrSetTag _ => false
  | .hdrClrTag _ => false
  | .hdrGetTag _ => false
  | .hdrSetEtype _ _ => false
  | .etTryFrom _ _ => false

/-- The condition on which a command reports VALUE_OUT_OF_RANGE (R171). -/
def outOfRangeCause : Instr → Prop
  | .pTryFrom w v => 2 ^ widthBits w - 1 < v.toNat
  | .pSet w v => 2 ^ widthBits w - 1 < v.toNat
  | .tagSetPcp v => 7 < v.toNat
  | .tagSetVid v => 0xFFF < v.toNat
  | _ => False

/-- The condition on which a command reports ETHERTYPE_IS_LENGTH (R171). -/
def isLengthCause : Instr → Prop
  | .etTryFrom _ r => r.toNat ≤ 1500
  | _ => False

/-- The condition on which a command reports UNKNOWN_ETHERTYPE (R171). -/
def unknownCause : Instr → Prop
  | .etTryFrom _ r => 1500 < r.toNat ∧ r.toNat ≠ 0x0800
  | _ => False

/-- The status code of an answer's response; 16, which no response holds, where there is none. -/
def statusOf (o : Result) : Nat :=
  match o with
  | .next t =>
    match t.resp with
    | some r => r.toNat / 2 ^ 60
    | none => 16
  | .fault _ => 16
  | .refused _ => 16

/-! ## Sequences of sub-field setters (R133 to R135) -/

/-- A successful sub-field setter: its operand fits the sub-field. -/
inductive TagSetter where
  | pcp (v : BitVec 3)
  | dei (b : Bool)
  | vid (v : BitVec 12)
deriving DecidableEq, Repr

/-- The command of a setter. -/
def setterInstr : TagSetter → Instr
  | .pcp v => .tagSetPcp (v.setWidth 16)
  | .dei b => .tagSetDei b
  | .vid v => .tagSetVid (v.setWidth 16)

/-- The last PCP written, or the one before where none is. -/
def lastPcp : BitVec 3 → List TagSetter → BitVec 3
  | p, [] => p
  | _, .pcp v :: ss => lastPcp v ss
  | p, .dei _ :: ss => lastPcp p ss
  | p, .vid _ :: ss => lastPcp p ss

/-- The last DEI written, or the one before where none is. -/
def lastDei : BitVec 1 → List TagSetter → BitVec 1
  | d, [] => d
  | d, .pcp _ :: ss => lastDei d ss
  | _, .dei b :: ss => lastDei (BitVec.ofBool b) ss
  | d, .vid _ :: ss => lastDei d ss

/-- The last VID written, or the one before where none is. -/
def lastVid : BitVec 12 → List TagSetter → BitVec 12
  | v, [] => v
  | v, .pcp _ :: ss => lastVid v ss
  | v, .dei _ :: ss => lastVid v ss
  | _, .vid u :: ss => lastVid u ss

/-- The starting VID with every VID written ORed onto it (R134). -/
def unionVid : BitVec 12 → List TagSetter → BitVec 12
  | v, [] => v
  | v, .pcp _ :: ss => unionVid v ss
  | v, .dei _ :: ss => unionVid v ss
  | v, .vid u :: ss => unionVid (v ||| u) ss

/-- The VIDs written, in order. -/
def writtenVids : List TagSetter → List (BitVec 12)
  | [] => []
  | .pcp _ :: ss => writtenVids ss
  | .dei _ :: ss => writtenVids ss
  | .vid u :: ss => u :: writtenVids ss

/-- Nothing but TAG.tci has changed since, once the host's list is back to what it was; the index has moved by `n`. -/
def keptButTci (n : Nat) (s t : State) : Prop :=
  t.cfg = s.cfg ∧ t.pending = s.pending ∧ t.idx = s.idx + n ∧ primsKept s.blk t.blk ∧
    t.blk.tag.tpid = s.blk.tag.tpid ∧ t.blk.h0 = s.blk.h0 ∧ t.blk.h1 = s.blk.h1

/-! ## Renaming MAC addresses (R8, R27) -/

/-- A header with its MACs renamed. -/
def renameHeader (f : Mac → Mac) (h : Header) : Header := { h with src := f h.src, dst := f h.dst }

/-- A state with every MAC of the banks, and MAC_DEFAULT, renamed. -/
def renameState (f : Mac → Mac) (s : State) : State :=
  { s with
    blk := { s.blk with h0 := renameHeader f s.blk.h0, h1 := renameHeader f s.blk.h1 }
    cfg := { s.cfg with macDefault := f s.cfg.macDefault } }

/-- A command with its MAC operand renamed. -/
def renameInstr (f : Mac → Mac) : Instr → Instr
  | .hdrWrSrc h m => .hdrWrSrc h (f m)
  | .hdrWrDst h m => .hdrWrDst h (f m)
  | i => i

/-- The commands that return a MAC. -/
def returnsMac : Instr → Bool
  | .hdrRdSrc _ => true
  | .hdrRdDst _ => true
  | _ => false

end Sys2Proof.Machine
end

