-- ==== Sys2Proof/Certificates/Slice0/Obligations.lean ====
section
/-! DEFINITION. The statements for the provers. In the per-command ones `encodesTo` gives the command's word and `responds` its
response as numbers, and the `kept…` terms are its frame. The response is read at the model's response port (assumption 5), and
the frame holds the model's own fields too: the configuration (3), the host's list (4) and the host's index (6). -/

open Sys2Proof Sys2Proof.Machine

/-! ## Constants -/

/-- For each width its code (R20, R62), W and MAX_VALUE(W) (R20, R5, R22); MIN_VALUE is 0. The storage widths N(W) rest on
assumption 9 (PRESUMED): R4 takes them from general knowledge. -/
def Obligations.WidthTableIsTheSpecs : Prop :=
  (∀ w, minValue w = 0 ∧ maxValue w = 2 ^ widthBits w - 1) ∧
  (widthIndex .u1 = 0 ∧ widthBits .u1 = 1 ∧ storageBits .u1 = 8 ∧ maxValue .u1 = 0x1) ∧
  (widthIndex .u2 = 1 ∧ widthBits .u2 = 2 ∧ storageBits .u2 = 8 ∧ maxValue .u2 = 0x3) ∧
  (widthIndex .u3 = 2 ∧ widthBits .u3 = 3 ∧ storageBits .u3 = 8 ∧ maxValue .u3 = 0x7) ∧
  (widthIndex .u4 = 3 ∧ widthBits .u4 = 4 ∧ storageBits .u4 = 8 ∧ maxValue .u4 = 0xF) ∧
  (widthIndex .u12 = 4 ∧ widthBits .u12 = 12 ∧ storageBits .u12 = 16 ∧ maxValue .u12 = 0xFFF)

/-! ## The primitive commands -/

/-- R100: P_DEFAULT sets U[w] to zero. -/
def Obligations.PDefaultStoresZero : Prop :=
  ∀ (w : Width) (s : State),
    encodesTo (.pDefault w) 0x10 (widthIndex w) 0 ∧
    ∃ t, exec (.pDefault w) s = .next t ∧ (readPrim t.blk w).toNat = 0 ∧ responds t 0 0 ∧ keptButPrim w s t

/-- R101: P_TRYFROM stores and returns v when v ≤ MAX, and otherwise reports VALUE_OUT_OF_RANGE and writes nothing. -/
def Obligations.PTryFromStoresAndReturnsInRange : Prop :=
  ∀ (w : Width) (v : Half) (s : State),
    encodesTo (.pTryFrom w v) 0x11 (widthIndex w) v.toNat ∧
    (v.toNat ≤ 2 ^ widthBits w - 1 →
      ∃ t, exec (.pTryFrom w v) s = .next t ∧ readPrim t.blk w = v ∧ responds t 0 v.toNat ∧ keptButPrim w s t) ∧
    (2 ^ widthBits w - 1 < v.toNat →
      ∃ t, exec (.pTryFrom w v) s = .next t ∧ responds t 1 0 ∧ blockKept s t)

/-- R102: P_SET stores v when v ≤ MAX and returns 0, and otherwise reports VALUE_OUT_OF_RANGE and writes nothing. -/
def Obligations.PSetStoresInRange : Prop :=
  ∀ (w : Width) (v : Half) (s : State),
    encodesTo (.pSet w v) 0x12 (widthIndex w) v.toNat ∧
    (v.toNat ≤ 2 ^ widthBits w - 1 →
      ∃ t, exec (.pSet w v) s = .next t ∧ readPrim t.blk w = v ∧ responds t 0 0 ∧ keptButPrim w s t) ∧
    (2 ^ widthBits w - 1 < v.toNat →
      ∃ t, exec (.pSet w v) s = .next t ∧ responds t 1 0 ∧ blockKept s t)

/-- R103: P_VALUE returns U[w], and where the range invariant holds the value is at most MAX. -/
def Obligations.PValueReturnsTheRegister : Prop :=
  ∀ (w : Width) (s : State),
    encodesTo (.pValue w) 0x13 (widthIndex w) 0 ∧
    (∃ t, exec (.pValue w) s = .next t ∧ responds t 0 (readPrim s.blk w).toNat ∧ blockKept s t) ∧
    (primsInRange s.blk → (readPrim s.blk w).toNat ≤ 2 ^ widthBits w - 1)

/-- R104: P_ISVALID returns the comparison U[w] ≤ MAX, computed; where the range invariant holds it is 1. -/
def Obligations.PIsValidComparesWithMax : Prop :=
  ∀ (w : Width) (s : State),
    encodesTo (.pIsValid w) 0x14 (widthIndex w) 0 ∧
    ∃ t, exec (.pIsValid w) s = .next t ∧ blockKept s t ∧
      ((readPrim s.blk w).toNat ≤ 2 ^ widthBits w - 1 → responds t 0 1) ∧
      (2 ^ widthBits w - 1 < (readPrim s.blk w).toNat → responds t 0 0) ∧
      (primsInRange s.blk → responds t 0 1)

/-- R105, R106, R107: P_MIN, P_MAX and P_BITS return the constants 0, 2^W − 1 and W. -/
def Obligations.PConstantsAreReturned : Prop :=
  ∀ (w : Width) (s : State),
    encodesTo (.pMin w) 0x15 (widthIndex w) 0 ∧ encodesTo (.pMax w) 0x16 (widthIndex w) 0 ∧
    encodesTo (.pBits w) 0x17 (widthIndex w) 0 ∧
    (∃ t, exec (.pMin w) s = .next t ∧ responds t 0 0 ∧ blockKept s t) ∧
    (∃ t, exec (.pMax w) s = .next t ∧ responds t 0 (2 ^ widthBits w - 1) ∧ blockKept s t) ∧
    (∃ t, exec (.pBits w) s = .next t ∧ responds t 0 (widthBits w) ∧ blockKept s t)

/-- The spec's sentence R108, which it marks derived: P_TRYFROM responds OK iff v ≤ 2^W − 1, and then P_VALUE returns v. -/
def Obligations.PTryFromThenValueReturnsIt : Prop :=
  ∀ (w : Width) (v : Half) (s : State),
    ∃ t, exec (.pTryFrom w v) s = .next t ∧ (lastOk t = true ↔ v.toNat ≤ 2 ^ widthBits w - 1) ∧
      (lastOk t = true → ∃ u, exec (.pValue w) t = .next u ∧ responds u 0 v.toNat ∧ u.blk = t.blk)

/-- The spec's sentence R109, which it marks derived: after P_SET of a valid v, P_VALUE returns v; after P_SET of an invalid v
it returns what it would have returned before. -/
def Obligations.PSetThenValueReturnsNewOrOld : Prop :=
  ∀ (w : Width) (v : Half) (s : State),
    ∃ t u, exec (.pSet w v) s = .next t ∧ exec (.pValue w) t = .next u ∧
      (v.toNat ≤ 2 ^ widthBits w - 1 → responds u 0 v.toNat) ∧
      (2 ^ widthBits w - 1 < v.toNat → responds t 1 0 ∧ responds u 0 (readPrim s.blk w).toNat)

/-- The spec's sentence R110, which it marks derived, over all commands: a primitive register changes only by P_DEFAULT,
P_TRYFROM or P_SET on that register. -/
def Obligations.PrimChangesOnlyByItsOwnCommands : Prop :=
  ∀ (i : Instr) (s t : State) (w : Width), exec i s = .next t → readPrim t.blk w ≠ readPrim s.blk w →
    i = .pDefault w ∨ (∃ v, i = .pTryFrom w v ∧ readPrim t.blk w = v) ∨ (∃ v, i = .pSet w v ∧ readPrim t.blk w = v)

/-! ## The tag codec commands -/

/-- R120: TAG_DEFAULT loads the standard TPID and TCI_DEFAULT. -/
def Obligations.TagDefaultLoadsDefaults : Prop :=
  ∀ s : State,
    encodesTo .tagDefault 0x20 0 0 ∧
    ∃ t, exec .tagDefault s = .next t ∧ t.blk.tag.tpid.toNat = 0x8100 ∧ t.blk.tag.tci = s.cfg.tciDefault ∧
      responds t 0 0 ∧ keptButTag s t

/-- R121: TAG_NEW loads the standard TPID and any raw TCI. -/
def Obligations.TagNewLoadsRawTci : Prop :=
  ∀ (v : Half) (s : State),
    encodesTo (.tagNew v) 0x21 0 v.toNat ∧
    ∃ t, exec (.tagNew v) s = .next t ∧ t.blk.tag.tpid.toNat = 0x8100 ∧ t.blk.tag.tci = v ∧ responds t 0 0 ∧ keptButTag s t

/-- R122: TAG_WR_TPID writes any TPID and leaves the TCI alone. -/
def Obligations.TagWrTpidWritesTpidOnly : Prop :=
  ∀ (v : Half) (s : State),
    encodesTo (.tagWrTpid v) 0x22 0 v.toNat ∧
    ∃ t, exec (.tagWrTpid v) s = .next t ∧ t.blk.tag.tpid = v ∧ t.blk.tag.tci = s.blk.tag.tci ∧
      responds t 0 0 ∧ keptButTag s t

/-- R123, R124, R125: the raw reads of TPID and TCI, and the TPID check, in which the TCI plays no part. -/
def Obligations.TagRawReadsAndValidity : Prop :=
  ∀ s : State,
    encodesTo .tagRdTpid 0x23 0 0 ∧ encodesTo .tagRdTci 0x24 0 0 ∧ encodesTo .tagIsValid 0x25 0 0 ∧
    (∃ t, exec .tagRdTpid s = .next t ∧ responds t 0 s.blk.tag.tpid.toNat ∧ blockKept s t) ∧
    (∃ t, exec .tagRdTci s = .next t ∧ responds t 0 s.blk.tag.tci.toNat ∧ blockKept s t) ∧
    (∃ t, exec .tagIsValid s = .next t ∧ blockKept s t ∧
      (s.blk.tag.tpid.toNat = 0x8100 → responds t 0 1) ∧ (s.blk.tag.tpid.toNat ≠ 0x8100 → responds t 0 0))

/-- R126, R128, R130: the sub-field reads, as quotients and remainders of the TCI's value. -/
def Obligations.TagFieldReads : Prop :=
  ∀ s : State,
    encodesTo .tagGetPcp 0x26 0 0 ∧ encodesTo .tagGetDei 0x28 0 0 ∧ encodesTo .tagGetVid 0x2A 0 0 ∧
    (∃ t, exec .tagGetPcp s = .next t ∧ responds t 0 (s.blk.tag.tci.toNat / 2 ^ 13) ∧ blockKept s t) ∧
    (∃ t, exec .tagGetDei s = .next t ∧ responds t 0 (s.blk.tag.tci.toNat / 2 ^ 12 % 2) ∧ blockKept s t) ∧
    (∃ t, exec .tagGetVid s = .next t ∧ responds t 0 (s.blk.tag.tci.toNat % 2 ^ 12) ∧ blockKept s t)

/-- R127: TAG_SET_PCP writes tci[15:13] and nothing else when v ≤ 7, and otherwise reports VALUE_OUT_OF_RANGE. -/
def Obligations.TagSetPcpWritesPcpOnly : Prop :=
  ∀ (v : Half) (s : State),
    encodesTo (.tagSetPcp v) 0x27 0 v.toNat ∧
    (v.toNat ≤ 7 →
      ∃ t, exec (.tagSetPcp v) s = .next t ∧
        t.blk.tag.tci.toNat = v.toNat * 2 ^ 13 + s.blk.tag.tci.toNat % 2 ^ 13 ∧
        t.blk.tag.tpid = s.blk.tag.tpid ∧ responds t 0 0 ∧ keptButTag s t) ∧
    (7 < v.toNat → ∃ t, exec (.tagSetPcp v) s = .next t ∧ responds t 1 0 ∧ blockKept s t)

/-- R129: TAG_SET_DEI writes tci[12] and nothing else. -/
def Obligations.TagSetDeiWritesDeiOnly : Prop :=
  ∀ (b : Bool) (s : State),
    encodesTo (.tagSetDei b) 0x29 0 b.toNat ∧
    ∃ t, exec (.tagSetDei b) s = .next t ∧
      t.blk.tag.tci.toNat
        = s.blk.tag.tci.toNat / 2 ^ 13 * 2 ^ 13 + b.toNat * 2 ^ 12 + s.blk.tag.tci.toNat % 2 ^ 12 ∧
      t.blk.tag.tpid = s.blk.tag.tpid ∧ responds t 0 0 ∧ keptButTag s t

/-- R131: TAG_SET_VID in both modes. A v above 0xFFF is refused; CLEAR makes the VID v; OR makes it the old VID ORed with v;
in both, bits 15:12 stay. -/
def Obligations.TagSetVidInBothModes : Prop :=
  ∀ (v : Half) (s : State),
    encodesTo (.tagSetVid v) 0x2B 0 v.toNat ∧
    (v.toNat ≤ 0xFFF → s.cfg.vidSetMode = .clear →
      ∃ t, exec (.tagSetVid v) s = .next t ∧
        t.blk.tag.tci.toNat = s.blk.tag.tci.toNat / 2 ^ 12 * 2 ^ 12 + v.toNat ∧
        t.blk.tag.tpid = s.blk.tag.tpid ∧ responds t 0 0 ∧ keptButTag s t) ∧
    (v.toNat ≤ 0xFFF → s.cfg.vidSetMode = .additiveOr →
      ∃ t, exec (.tagSetVid v) s = .next t ∧
        t.blk.tag.tci.toNat / 2 ^ 12 = s.blk.tag.tci.toNat / 2 ^ 12 ∧
        t.blk.tag.tci.toNat % 2 ^ 12 = (s.blk.tag.tci.toNat % 2 ^ 12 ||| v.toNat) ∧
        t.blk.tag.tpid = s.blk.tag.tpid ∧ responds t 0 0 ∧ keptButTag s t) ∧
    (0xFFF < v.toNat → ∃ t, exec (.tagSetVid v) s = .next t ∧ responds t 1 0 ∧ blockKept s t)

/-- The spec's sentence R132, which it marks derived: each setter leaves the other two sub-fields and the TPID alone, so that
their getters return the same before and after it, in either mode. -/
def Obligations.TagSettersAreIndependent : Prop :=
  ∀ (s t : State),
    (∀ v, exec (.tagSetPcp v) s = .next t →
      t.blk.tag.tpid = s.blk.tag.tpid ∧ deiOf t.blk.tag.tci = deiOf s.blk.tag.tci ∧ vidOf t.blk.tag.tci = vidOf s.blk.tag.tci) ∧
    (∀ b, exec (.tagSetDei b) s = .next t →
      t.blk.tag.tpid = s.blk.tag.tpid ∧ pcpOf t.blk.tag.tci = pcpOf s.blk.tag.tci ∧ vidOf t.blk.tag.tci = vidOf s.blk.tag.tci) ∧
    (∀ v, exec (.tagSetVid v) s = .next t →
      t.blk.tag.tpid = s.blk.tag.tpid ∧ pcpOf t.blk.tag.tci = pcpOf s.blk.tag.tci ∧ deiOf t.blk.tag.tci = deiOf s.blk.tag.tci)

/-- The spec's sentence R133, which it marks derived: in CLEAR mode, after any finite sequence of successful setters, in any
order and with repeats, each sub-field holds the last value written to it, or its starting value where none was. The sequence
runs from the host's list, so every step's fetch and decode is part of it. That the commands stand in a list, and that the index
counts them, are the model's choices (assumptions 4 and 6). -/
def Obligations.ClearModeKeepsLastValueOfEachField : Prop :=
  ∀ (ss : List TagSetter) (s : State), s.cfg.vidSetMode = .clear →
    ∃ t, runCommands (ss.map setterInstr) s = .next t ∧
      pcpOf t.blk.tag.tci = lastPcp (pcpOf s.blk.tag.tci) ss ∧
      deiOf t.blk.tag.tci = lastDei (deiOf s.blk.tag.tci) ss ∧
      vidOf t.blk.tag.tci = lastVid (vidOf s.blk.tag.tci) ss ∧
      keptButTci ss.length s t

/-- The spec's sentence R134, which it marks derived: in OR mode the law holds for PCP and DEI; the VID is the starting VID ORed
with every VID written, and it equals the last value written iff the starting VID and every VID written are bit-subsets of
that last value. That the commands stand in a list, and that the index counts them, are the model's choices (assumptions 4
and 6). -/
def Obligations.OrModeAccumulatesVid : Prop :=
  ∀ (ss : List TagSetter) (s : State), s.cfg.vidSetMode = .additiveOr →
    ∃ t, runCommands (ss.map setterInstr) s = .next t ∧
      pcpOf t.blk.tag.tci = lastPcp (pcpOf s.blk.tag.tci) ss ∧
      deiOf t.blk.tag.tci = lastDei (deiOf s.blk.tag.tci) ss ∧
      vidOf t.blk.tag.tci = unionVid (vidOf s.blk.tag.tci) ss ∧
      (vidOf t.blk.tag.tci = lastVid (vidOf s.blk.tag.tci) ss ↔
        ∀ u ∈ vidOf s.blk.tag.tci :: writtenVids ss, u &&& ~~~(lastVid (vidOf s.blk.tag.tci) ss) = 0#12) ∧
      keptButTci ss.length s t

/-- The spec's sentence R135, which it marks derived: set all three sub-fields, each once, in any of the six orders; the getters
then return the triple, from any tag in CLEAR mode and from a tag with VID 0 in OR mode. The sequence runs from the host's list
(assumption 4). -/
def Obligations.TagRoundTripInAllSixOrders : Prop :=
  ∀ (p : BitVec 3) (d : Bool) (v : BitVec 12) (ss : List TagSetter) (s : State),
    ss.Perm [.pcp p, .dei d, .vid v] → (s.cfg.vidSetMode = .clear ∨ vidOf s.blk.tag.tci = 0#12) →
    ∃ t, runCommands (ss.map setterInstr) s = .next t ∧
      (∃ u, exec .tagGetPcp t = .next u ∧ responds u 0 p.toNat) ∧
      (∃ u, exec .tagGetDei t = .next u ∧ responds u 0 d.toNat) ∧
      (∃ u, exec .tagGetVid t = .next u ∧ responds u 0 v.toNat)

/-- The spec's sentence R136, which it marks derived: a TPID change comes from TAG_NEW, TAG_DEFAULT, TAG_WR_TPID or HDR_GET_TAG
alone, and no getter of a sub-field looks at the TPID. -/
def Obligations.TpidAndTciAreIndependent : Prop :=
  (∀ (i : Instr) (s t : State), exec i s = .next t → t.blk.tag.tpid ≠ s.blk.tag.tpid →
    i = .tagDefault ∨ (∃ v, i = .tagNew v) ∨ (∃ v, i = .tagWrTpid v) ∨ (∃ h, i = .hdrGetTag h)) ∧
  (∀ (i : Instr) (s : State) (v : Half),
    i = .tagGetPcp ∨ i = .tagGetDei ∨ i = .tagGetVid ∨ i = .tagRdTci →
    ∃ t u, exec i s = .next t ∧ exec i { s with blk := writeTpid s.blk v } = .next u ∧ u.resp = t.resp)

/-! ## EtherType -/

/-- R140, R158, R159: the enumerators' codes and selectors, HDR_SET_ETYPE and HDR_RD_ETYPE. -/
def Obligations.EtherTypeWriteAndRead : Prop :=
  (etherCode .empty).toNat = 0x0000 ∧ (etherCode .ipv4).toNat = 0x0800 ∧
  (∀ (h : Bank) (s : State),
    encodesTo (.hdrSetEtype h .empty) 0x38 (bankIndex h) 0 ∧ encodesTo (.hdrSetEtype h .ipv4) 0x38 (bankIndex h) 1 ∧
    encodesTo (.hdrRdEtype h) 0x39 (bankIndex h) 0 ∧
    (∀ e, ∃ t, exec (.hdrSetEtype h e) s = .next t ∧ readHdr t.blk h = { readHdr s.blk h with etype := e } ∧
      responds t 0 0 ∧ keptButHdr h s t) ∧
    (∃ t, exec (.hdrRdEtype h) s = .next t ∧ blockKept s t ∧
      ((readHdr s.blk h).etype = .empty → responds t 0 0x0000) ∧
      ((readHdr s.blk h).etype = .ipv4 → responds t 0 0x0800)))

/-- R141: ET_TRYFROM's three outcomes. -/
def Obligations.EtTryFromClassifies : Prop :=
  ∀ (h : Bank) (r : Half) (s : State),
    encodesTo (.etTryFrom h r) 0x3A (bankIndex h) r.toNat ∧
    (r.toNat ≤ 1500 → ∃ t, exec (.etTryFrom h r) s = .next t ∧ responds t 2 0 ∧ blockKept s t) ∧
    (r.toNat = 0x0800 → ∃ t, exec (.etTryFrom h r) s = .next t ∧
      readHdr t.blk h = { readHdr s.blk h with etype := .ipv4 } ∧ responds t 0 0x0800 ∧ keptButHdr h s t) ∧
    (1500 < r.toNat ∧ r.toNat ≠ 0x0800 → ∃ t, exec (.etTryFrom h r) s = .next t ∧ responds t 3 0 ∧ blockKept s t)

/-- The spec's sentence R142, which it marks derived, counted over the model's own answers: of the 65536 raw values 1501 are
lengths, one is IPv4, and the rest of the values are unknown, whatever the bank and the state. The rest is 64034 by R141's
bands; R142's table prints 34034, which assumption 7 sets aside. -/
def Obligations.EtherTypeBandsAreCounted : Prop :=
  ∀ (h : Bank) (s : State),
    (List.range 65536).countP (fun n => statusOf (exec (.etTryFrom h (BitVec.ofNat 16 n)) s) == 2) = 1501 ∧
    (List.range 65536).countP (fun n => statusOf (exec (.etTryFrom h (BitVec.ofNat 16 n)) s) == 0) = 1 ∧
    (List.range 65536).countP (fun n => statusOf (exec (.etTryFrom h (BitVec.ofNat 16 n)) s) == 3) = 64034

/-! ## The header commands -/

/-- R150: HDR_DEFAULT loads the default header. -/
def Obligations.HdrDefaultLoadsDefaults : Prop :=
  ∀ (h : Bank) (s : State),
    encodesTo (.hdrDefault h) 0x30 (bankIndex h) 0 ∧
    ∃ t, exec (.hdrDefault h) s = .next t ∧
      readHdr t.blk h = { src := s.cfg.macDefault, dst := s.cfg.macDefault, tag := none, etype := .empty } ∧
      responds t 0 0 ∧ keptButHdr h s t

/-- R151, R152: HDR_WR_SRC and HDR_WR_DST write their MAC and no other field. -/
def Obligations.HdrMacWrites : Prop :=
  ∀ (h : Bank) (m : Mac) (s : State),
    encodesTo (.hdrWrSrc h m) 0x31 (bankIndex h) m.toNat ∧ encodesTo (.hdrWrDst h m) 0x32 (bankIndex h) m.toNat ∧
    (∃ t, exec (.hdrWrSrc h m) s = .next t ∧ readHdr t.blk h = { readHdr s.blk h with src := m } ∧
      responds t 0 0 ∧ keptButHdr h s t) ∧
    (∃ t, exec (.hdrWrDst h m) s = .next t ∧ readHdr t.blk h = { readHdr s.blk h with dst := m } ∧
      responds t 0 0 ∧ keptButHdr h s t)

/-- R153, R154: HDR_RD_SRC and HDR_RD_DST return the MACs. -/
def Obligations.HdrMacReads : Prop :=
  ∀ (h : Bank) (s : State),
    encodesTo (.hdrRdSrc h) 0x33 (bankIndex h) 0 ∧ encodesTo (.hdrRdDst h) 0x34 (bankIndex h) 0 ∧
    (∃ t, exec (.hdrRdSrc h) s = .next t ∧ responds t 0 (readHdr s.blk h).src.toNat ∧ blockKept s t) ∧
    (∃ t, exec (.hdrRdDst h) s = .next t ∧ responds t 0 (readHdr s.blk h).dst.toNat ∧ blockKept s t)

/-- R155, R156: HDR_SET_TAG stores a copy of TAG, HDR_CLR_TAG empties the slot. -/
def Obligations.HdrTagWrites : Prop :=
  ∀ (h : Bank) (s : State),
    encodesTo (.hdrSetTag h) 0x35 (bankIndex h) 0 ∧ encodesTo (.hdrClrTag h) 0x36 (bankIndex h) 0 ∧
    (∃ t, exec (.hdrSetTag h) s = .next t ∧ readHdr t.blk h = { readHdr s.blk h with tag := some s.blk.tag } ∧
      responds t 0 0 ∧ keptButHdr h s t) ∧
    (∃ t, exec (.hdrClrTag h) s = .next t ∧ readHdr t.blk h = { readHdr s.blk h with tag := none } ∧
      responds t 0 0 ∧ keptButHdr h s t)

/-- R157: HDR_GET_TAG copies a present tag into TAG and reports presence, TPID and TCI; an absent tag gives 0 and changes
nothing; issuing it twice gives the same state and response. -/
def Obligations.HdrGetTagCopiesPresentTag : Prop :=
  ∀ (h : Bank) (s : State),
    encodesTo (.hdrGetTag h) 0x37 (bankIndex h) 0 ∧
    (∀ u, (readHdr s.blk h).tag = some u →
      ∃ t, exec (.hdrGetTag h) s = .next t ∧ t.blk.tag = u ∧
        responds t 0 (2 ^ 32 + u.tpid.toNat * 2 ^ 16 + u.tci.toNat) ∧ keptButTag s t ∧ exec (.hdrGetTag h) t = .next t) ∧
    ((readHdr s.blk h).tag = none →
      ∃ t, exec (.hdrGetTag h) s = .next t ∧ responds t 0 0 ∧ blockKept s t ∧ exec (.hdrGetTag h) t = .next t)

/-- R160: HDR_EQ returns 1 exactly when the two banks agree in all four fields, the tag taken as an option. -/
def Obligations.HdrEqIsStructuralEquality : Prop :=
  ∀ s : State,
    encodesTo .hdrEq 0x3B 0 0 ∧
    ∃ t, exec .hdrEq s = .next t ∧ blockKept s t ∧
      (s.blk.h0 = s.blk.h1 → responds t 0 1) ∧ (s.blk.h0 ≠ s.blk.h1 → responds t 0 0)

/-- The spec's sentence R162, which it marks derived: from two equal untagged IPv4 banks HDR_EQ returns 1, and after any one
change of one field of one bank (src, dst, the tag's presence, EtherType) it returns 0. -/
def Obligations.AnyOneFieldBreaksEquality : Prop :=
  ∀ (s : State) (hd : Header), hd.tag = none → hd.etype = .ipv4 → s.blk.h0 = hd → s.blk.h1 = hd →
    (∃ u, exec .hdrEq s = .next u ∧ responds u 0 1) ∧
    ∀ (h : Bank) (i : Instr),
      (∃ m, m ≠ hd.src ∧ i = .hdrWrSrc h m) ∨ (∃ m, m ≠ hd.dst ∧ i = .hdrWrDst h m) ∨
        i = .hdrSetTag h ∨ i = .hdrSetEtype h .empty →
      ∃ t u, exec i s = .next t ∧ exec .hdrEq t = .next u ∧ responds u 0 0

/-- R30: no two pieces of state alias. A bank's tag changes only by HDR_SET_TAG on that bank, to a copy of TAG, or is emptied by
HDR_CLR_TAG or HDR_DEFAULT on that bank; TAG changes only by a TAG_ command or by HDR_GET_TAG, to a copy of a present tag. -/
def Obligations.TagsMoveOnlyByExplicitCopy : Prop :=
  ∀ (i : Instr) (s t : State), exec i s = .next t →
    (∀ h, (readHdr t.blk h).tag = (readHdr s.blk h).tag ∨
      (i = .hdrSetTag h ∧ (readHdr t.blk h).tag = some s.blk.tag) ∨
      ((i = .hdrClrTag h ∨ i = .hdrDefault h) ∧ (readHdr t.blk h).tag = none)) ∧
    (t.blk.tag = s.blk.tag ∨ (∃ h, i = .hdrGetTag h ∧ (readHdr s.blk h).tag = some t.blk.tag) ∨
      i = .tagDefault ∨ (∃ v, i = .tagNew v) ∨ (∃ v, i = .tagWrTpid v) ∨
      (∃ v, i = .tagSetPcp v) ∨ (∃ b, i = .tagSetDei b) ∨ (∃ v, i = .tagSetVid v))

/-- The corner cases of R141 and R158 and the frames of R150 to R152, over all commands: a MAC of a bank changes only by its
write command or HDR_DEFAULT on that bank, to the value written; an EtherType becomes Empty only by HDR_DEFAULT or
HDR_SET_ETYPE, and IPv4 only by HDR_SET_ETYPE or by ET_TRYFROM with 0x0800. -/
def Obligations.MacAndEtherTypeChangeOnlyByTheirCommands : Prop :=
  ∀ (i : Instr) (s t : State) (h : Bank), exec i s = .next t →
    ((readHdr t.blk h).src ≠ (readHdr s.blk h).src →
      (i = .hdrDefault h ∧ (readHdr t.blk h).src = s.cfg.macDefault) ∨ i = .hdrWrSrc h (readHdr t.blk h).src) ∧
    ((readHdr t.blk h).dst ≠ (readHdr s.blk h).dst →
      (i = .hdrDefault h ∧ (readHdr t.blk h).dst = s.cfg.macDefault) ∨ i = .hdrWrDst h (readHdr t.blk h).dst) ∧
    ((readHdr t.blk h).etype ≠ (readHdr s.blk h).etype →
      ((readHdr t.blk h).etype = .empty ∧ (i = .hdrDefault h ∨ i = .hdrSetEtype h .empty)) ∨
      ((readHdr t.blk h).etype = .ipv4 ∧ (i = .hdrSetEtype h .ipv4 ∨ i = .etTryFrom h 0x0800)))

/-! ## Decoding -/

/-- R61: words written out from the opcode map, one or more a family, decode to the commands they stand for. -/
def Obligations.WrittenWordsDecode : Prop :=
  decode 0x1140000000000FFF = .ok (.pTryFrom .u12 0xFFF) ∧
  decode 0x1230000000000010 = .ok (.pSet .u4 16) ∧
  decode 0x2900000000000001 = .ok (.tagSetDei true) ∧
  decode 0x2B000000000000A0 = .ok (.tagSetVid 0x0A0) ∧
  decode 0x3210FFFFFFFFFFFF = .ok (.hdrWrDst .h1 0xFFFFFFFFFFFF) ∧
  decode 0x3810000000000001 = .ok (.hdrSetEtype .h1 .ipv4) ∧
  decode 0x3A100000000005DC = .ok (.etTryFrom .h1 1500) ∧
  decode 0x3B00000000000000 = .ok .hdrEq ∧
  decode 0x0000000000000000 = .error .undefinedOpcode

/-- Decode and encode agree: every command, with every operand, decodes from its own word. -/
def Obligations.DecodeOfEncodeIsTheCommand : Prop :=
  ∀ i : Instr, decode (encode i) = .ok i

/-- Each legal word has one meaning and every bit of it is used: a word that decodes is the word of the command it decodes to. -/
def Obligations.EncodeOfDecodeIsTheWord : Prop :=
  ∀ (w : Word) (i : Instr), decode w = .ok i → encode i = w

/-- R70: decoding is total; it gives a command exactly for the words that pass the four checks written from the table of R61,
and otherwise names the first check, in the order of R70, that fails. -/
def Obligations.DecodeChecksInOrder : Prop :=
  ∀ w : Word,
    ((∃ i, decode w = .ok i) ↔ (rawOf w).wellFormed = true) ∧
    (decode w = .error .undefinedOpcode ↔ (rawOf w).opcodeDefined = false) ∧
    (decode w = .error .reservedNonzero ↔ (rawOf w).opcodeDefined = true ∧ (rawOf w).rsvZero = false) ∧
    (decode w = .error .selectorIllegal ↔
      (rawOf w).opcodeDefined = true ∧ (rawOf w).rsvZero = true ∧ (rawOf w).selLegal = false) ∧
    (decode w = .error .dataNonzero ↔
      (rawOf w).opcodeDefined = true ∧ (rawOf w).rsvZero = true ∧ (rawOf w).selLegal = true ∧ (rawOf w).dataLegal = false)

/-- R66, R67, R68, R69: an undefined opcode, a nonzero rsv, an illegal sel or a nonzero must-be-zero data bit each make the step
answer ILLEGAL_COMMAND with nothing written; and the undefined opcodes are the ranges R69 lists. That the word leaves the host's
list and that the index moves on by 1 are the model's choices (assumptions 4 and 6; R33 for the index). -/
def Obligations.IllegalWordsAnswerIllegalCommand : Prop :=
  (∀ op : BitVec 8, opcodeKinds op = none ↔
    (op.toNat ≤ 0x0F ∨ (0x18 ≤ op.toNat ∧ op.toNat ≤ 0x1F) ∨ (0x2C ≤ op.toNat ∧ op.toNat ≤ 0x2F) ∨ 0x3C ≤ op.toNat)) ∧
  (∀ (s : State) (w : Word) (rest : List HostEvent), s.pending = .command w :: rest →
    (opcodeKinds (opOf w) = none ∨ w.toNat / 2 ^ 48 % 2 ^ 4 ≠ 0 ∨
      ∃ ks kd, opcodeKinds (opOf w) = some (ks, kd) ∧ (ks.admits (selOf w) = false ∨ kd.admits (dataOf w) = false)) →
    ∃ t, step s = .next t ∧ responds t 4 0 ∧ t.blk = s.blk ∧ t.cfg = s.cfg ∧ t.pending = rest ∧ t.idx = s.idx + 1)

/-! ## The step -/

/-- A step runs the decoded command: the command leaves the host's list, the host's index moves on by one, and the rest is
`exec` (assumptions 4 and 6 for the list and the index). -/
def Obligations.StepRunsTheDecodedCommand : Prop :=
  ∀ (s : State) (w : Word) (rest : List HostEvent) (i : Instr), s.pending = .command w :: rest → decode w = .ok i →
    step s = exec i { s with pending := rest, idx := s.idx + 1 }

/-- R190: reset between commands sets every state field, gives no response, and changes no configuration. That the event leaves
the host's list, that no response shows as an empty port, and that the index stays are the model's choices (assumptions 4, 5
and 6; the spec does not say what the index does at a reset event). -/
def Obligations.HostResetRestoresResetValues : Prop :=
  ∀ (s : State) (rest : List HostEvent), s.pending = .reset :: rest →
    ∃ t, step s = .next t ∧ (∀ w, (readPrim t.blk w).toNat = 0) ∧
      t.blk.tag = { tpid := 0x8100, tci := s.cfg.tciDefault } ∧
      (∀ h, readHdr t.blk h = { src := s.cfg.macDefault, dst := s.cfg.macDefault, tag := none, etype := .empty }) ∧
      t.resp = none ∧ t.cfg = s.cfg ∧ t.pending = rest ∧ t.idx = s.idx

/-- The model's own choice (assumption 4; the spec's sentence is R180, "The block has no halt state"): with nothing issued the
block waits and gives no response. -/
def Obligations.SilentHostLeavesTheBlockWaiting : Prop :=
  ∀ s : State, s.pending = [] → step s = .next { s with resp := none } ∧ (s.resp = none → step s = .next s)

/-- The spec's sentence R191, which it marks derived: the eight default commands give the state reset gives. Commands and reset
event come from the host's list (assumption 4). -/
def Obligations.DefaultCommandsEqualReset : Prop :=
  ∀ s : State,
    ∃ t, runCommands [.pDefault .u1, .pDefault .u2, .pDefault .u3, .pDefault .u4, .pDefault .u12, .tagDefault,
        .hdrDefault .h0, .hdrDefault .h1] s = .next t ∧
      (∀ r rest, r.pending = .reset :: rest → r.cfg = s.cfg → ∃ u, step r = .next u ∧ u.blk = t.blk)

/-- The spec's sentence of R193, which it marks derived: HDR_EQ after reset returns 1, whatever MAC_DEFAULT is. Reset event and
command come from the host's list (assumption 4). -/
def Obligations.HdrEqAfterResetIsTrue : Prop :=
  ∀ (s : State) (rest : List HostEvent), s.pending = .reset :: .command (encode .hdrEq) :: rest →
    ∃ t, Host.Core.run Sys2Proof.core 2 s = .next t ∧ responds t 0 1

/-- R34, R35, R36: the values after reset. -/
def Obligations.ResetStateHasTheSpecsValues : Prop :=
  (∀ w, (readPrim State.reset.blk w).toNat = 0) ∧
  State.reset.blk.tag.tpid.toNat = 0x8100 ∧ State.reset.blk.tag.tci = State.reset.cfg.tciDefault ∧
  (∀ h, readHdr State.reset.blk h
    = { src := State.reset.cfg.macDefault, dst := State.reset.cfg.macDefault, tag := none, etype := .empty })

/-- R170: every step answers a next state. A command word, legal or not, gets one response, of a legal form, and leaves the
block ready for the next command; reset gets none (R190). The model's choices: the word leaves the host's list (assumption 4), the
index moves on by 1 (assumption 6), and a silent host's step shows an empty response port (assumptions 4 and 5). -/
def Obligations.EveryCommandGetsOneResponse : Prop :=
  ∀ s : State, ∃ t, step s = .next t ∧
    (∀ w rest, s.pending = .command w :: rest →
      t.pending = rest ∧ t.idx = s.idx + 1 ∧ t.cfg = s.cfg ∧ ∃ r, t.resp = some r ∧ legalResponse r) ∧
    ((∀ w rest, s.pending ≠ .command w :: rest) → t.resp = none)

/-- R171: the cause table. Each status is reported exactly on its cause. -/
def Obligations.StatusCausesAreTheTables : Prop :=
  ∀ (s t : State) (w : Word) (rest : List HostEvent) (r : Word),
    s.pending = .command w :: rest → step s = .next t → t.resp = some r →
    (r.toNat / 2 ^ 60 = 4 ↔ (rawOf w).wellFormed = false) ∧
    (∀ i, decode w = .ok i →
      (r.toNat / 2 ^ 60 = 1 ↔ outOfRangeCause i) ∧ (r.toNat / 2 ^ 60 = 2 ↔ isLengthCause i) ∧
      (r.toNat / 2 ^ 60 = 3 ↔ unknownCause i))

/-- R172: a command that reports a non-OK status writes no state, and its read data is 0. The configuration, which the model
carries in the state (assumption 3), stays too. -/
def Obligations.FailedCommandWritesNothing : Prop :=
  ∀ (s t : State) (w : Word) (rest : List HostEvent) (r : Word),
    s.pending = .command w :: rest → step s = .next t → t.resp = some r → r.toNat / 2 ^ 60 ≠ 0 →
    r.toNat % 2 ^ 60 = 0 ∧ t.blk = s.blk ∧ t.cfg = s.cfg

/-- For a step that takes a command this is R31: the next command cannot see an earlier command's response. The statement is over
every step. That the response stands in a port of the state is the model's choice (assumption 5), and so is the step of a silent
host, which does not see the port because it clears it (assumptions 4 and 5); a reset event gives no response (R190), which the
model shows as an empty port (assumption 5). -/
def Obligations.NoCommandSeesAnEarlierResponse : Prop :=
  ∀ (s : State) (r : Option Word), step { s with resp := r } = step s

/-- The spec's sentence R54, which it marks derived: a read command writes no state and repeating it gives the same response. -/
def Obligations.ReadsHaveNoSideEffect : Prop :=
  ∀ (i : Instr) (s : State), readsOnly i = true →
    ∃ t, exec i s = .next t ∧ blockKept s t ∧ exec i t = .next t

/-- R56, R179: the machine run on any list of host events is the port's step folded over the list in order: the block and the
response after it depend on nothing but cfg, the block before and the words, and the index counts the commands. The list of
events, the response port and an index that counts commands and not resets are the model's choices (assumptions 4, 5 and 6). -/
def Obligations.RunIsTheFoldOfPortSteps : Prop :=
  ∀ (es rest : List HostEvent) (s : State), s.pending = es ++ rest →
    Host.Core.run Sys2Proof.core es.length s =
      .next { blk := (eventsStep s.cfg s.blk s.resp es).1, cfg := s.cfg, pending := rest,
              resp := (eventsStep s.cfg s.blk s.resp es).2, idx := s.idx + commandCount es }

/-- R32, R9: the configuration is fixed, and it reaches a command only where the spec says so: another configuration changes the
block or the response only of TAG_DEFAULT, HDR_DEFAULT and, where VID_SET_MODE differs, TAG_SET_VID. That the configuration is
carried in the state, and that a silent host's step is a step, which keeps it too, are the model's choices (assumptions 3
and 4). -/
def Obligations.ConfigurationIsFixedAndOpaque : Prop :=
  (∀ s t : State, step s = .next t → t.cfg = s.cfg) ∧
  (∀ (i : Instr) (s : State) (p : Params), i ≠ .tagDefault → (∀ h, i ≠ .hdrDefault h) →
    ((∃ v, i = .tagSetVid v) → p.vidSetMode = s.cfg.vidSetMode) →
    ∃ t u, exec i s = .next t ∧ exec i { s with cfg := p } = .next u ∧ u.blk = t.blk ∧ u.resp = t.resp)

/-! ## Invariants and whole-machine rules -/

/-- The invariant holds at reset: the registers are in range, and the response port shows a legal response or none. -/
def Obligations.InvariantHoldsAtReset : Prop := Inv State.reset

/-- Every step keeps the invariant: registers in range (R21), and a response of the legal form (R64, R65). -/
def Obligations.StepKeepsTheInvariant : Prop :=
  ∀ s t : State, Inv s → step s = .next t → Inv t

/-- R21: the range invariant holds in every state the block can reach: under every configuration, after any number of steps
from reset on whatever the host issues from its list (assumption 4). -/
def Obligations.ReachableRegistersAreInRange : Prop :=
  ∀ (cfg : Params) (es : List HostEvent) (n : Nat) (t : State),
    Host.Core.run Sys2Proof.core n { blk := Block.atReset cfg, cfg := cfg, pending := es, resp := none, idx := 0 } = .next t →
    ∀ w, (readPrim t.blk w).toNat ≤ 2 ^ widthBits w - 1

/-- R27: no rule reads a MAC's bits. Renaming every MAC, of the banks, of MAC_DEFAULT and of the command, by any injective
function renames the banks after the command in the same way and leaves the response alone, but for the two commands that
return a MAC, whose read data is renamed. -/
def Obligations.MacsAreOpaque : Prop :=
  ∀ (f : Mac → Mac), Function.Injective f → ∀ (i : Instr) (s t : State), exec i s = .next t →
    ∃ u, exec (renameInstr f i) (renameState f s) = .next u ∧ u.blk = (renameState f t).blk ∧
      (returnsMac i = false → u.resp = t.resp) ∧
      (returnsMac i = true → ∃ m : Mac, t.resp = some (respWord .ok m) ∧ u.resp = some (respWord .ok (f m)))

/-- The spec's sentence R161, which it marks derived, for the whole block: the host can bring the block from any state to any
content whose registers are in range, by commands, with no field checked against another. R121 and R122 let TAG take any
content. The commands come from the host's list (assumption 4). -/
def Obligations.EveryInRangeBlockIsReachable : Prop :=
  ∀ (s : State) (b : Block), primsInRange b → ∃ is t, runCommands is s = .next t ∧ t.blk = b

/-! ## The host's tools -/

/-- R73: what the pseudo-instructions do, and the stop at the first status that is not OK. -/
def Obligations.PseudoInstructionsHaveTheirEffect : Prop :=
  (∀ (s : State) (tpid tci : Half), ∃ t, runPseudo (.tagLoad tpid tci) s = .next t ∧ lastOk t = true ∧
    t.blk = { s.blk with tag := { tpid := tpid, tci := tci } }) ∧
  (∀ (s : State) (h : Bank) (src dst : Mac) (e : EtherType), ∃ t, runPseudo (.hdrNew h src dst e) s = .next t ∧
    lastOk t = true ∧ t.blk = writeHdr s.blk h { src := src, dst := dst, tag := none, etype := e }) ∧
  (∀ (s : State) (h : Bank) (src dst : Mac) (e : EtherType), ∃ t, runPseudo (.hdrNewTagged h src dst e) s = .next t ∧
    lastOk t = true ∧ t.blk = writeHdr s.blk h { src := src, dst := dst, tag := some s.blk.tag, etype := e }) ∧
  (∀ (w : Word) (ws : List Word) (s t : State), step { s with pending := .command w :: s.pending } = .next t →
    lastOk t = false → issueUntilError (w :: ws) s = .next t)

/-- Three source lines after the examples of R72, and one refusal. The first two lines are the spec's own. The third is its
`TAG_SET_DEI true` with a blank and a comment added: that a comment is dropped is R72's, that the blank before it is dropped is
the model's choice (assumption 8). The refused operand is the one value 65536. -/
def Obligations.AssemblerExamples : Prop :=
  assembleLine "P_SET U12, 0xFFF" = some [0x1240000000000FFF] ∧
  assembleLine "HDR_SET_ETYPE H1, IPV4" = some [0x3810000000000001] ∧
  assembleLine "TAG_SET_DEI true ; mark it" = some [0x2900000000000001] ∧
  assembleLine "TAG_NEW 65536" = none
end

