-- ==== Sys2Proof/Laws/Decode.lean ====
section
/-! SUPPORT. The fields of a packed command word and of its operands, for the encoding statements. -/

namespace Sys2Proof

/-- The value of a packed command word (R60). -/
theorem packWord_toNat (op : BitVec 8) (sel : BitVec 4) (data : BitVec 48) :
    (packWord op sel data).toNat = op.toNat * 2 ^ 56 + sel.toNat * 2 ^ 52 + data.toNat := by
  have h1 := data.isLt
  have h2 := sel.isLt
  have e : (packWord op sel data).toNat = (((op.toNat <<< 4 ||| sel.toNat) <<< 4) ||| 0) <<< 48 ||| data.toNat := by
    unfold packWord
    rw [BitVec.toNat_append, BitVec.toNat_append, BitVec.toNat_append]
    rfl
  rw [e, Nat.or_zero, ← Nat.shiftLeft_add_eq_or_of_lt (by omega), ← Nat.shiftLeft_add_eq_or_of_lt (by omega)]
  simp only [Nat.shiftLeft_eq]
  omega

@[simp] theorem opOf_packWord (op : BitVec 8) (sel : BitVec 4) (data : BitVec 48) : opOf (packWord op sel data) = op := by
  apply BitVec.eq_of_toNat_eq
  have h1 := data.isLt
  have h2 := sel.isLt
  have h3 := op.isLt
  simp only [opOf, BitVec.extractLsb'_toNat, packWord_toNat, Nat.shiftRight_eq_div_pow]; omega

@[simp] theorem selOf_packWord (op : BitVec 8) (sel : BitVec 4) (data : BitVec 48) : selOf (packWord op sel data) = sel := by
  apply BitVec.eq_of_toNat_eq
  have h1 := data.isLt
  have h2 := sel.isLt
  simp only [selOf, BitVec.extractLsb'_toNat, packWord_toNat, Nat.shiftRight_eq_div_pow]; omega

@[simp] theorem rsvOf_packWord (op : BitVec 8) (sel : BitVec 4) (data : BitVec 48) : rsvOf (packWord op sel data) = 0#4 := by
  apply BitVec.eq_of_toNat_eq
  have h1 := data.isLt
  simp only [rsvOf, BitVec.extractLsb'_toNat, packWord_toNat, Nat.shiftRight_eq_div_pow]; simp; omega

@[simp] theorem dataOf_packWord (op : BitVec 8) (sel : BitVec 4) (data : BitVec 48) :
    dataOf (packWord op sel data) = data := by
  apply BitVec.eq_of_toNat_eq
  have h1 := data.isLt
  simp only [dataOf, BitVec.extractLsb'_toNat, packWord_toNat, Nat.shiftRight_eq_div_pow]; omega

/-- A word is its four fields (R60). -/
theorem word_ext (w w' : Word) (h1 : opOf w = opOf w') (h2 : selOf w = selOf w') (h3 : rsvOf w = rsvOf w')
    (h4 : dataOf w = dataOf w') : w = w' := by
  apply BitVec.eq_of_toNat_eq
  have e1 := congrArg BitVec.toNat h1
  have e2 := congrArg BitVec.toNat h2
  have e3 := congrArg BitVec.toNat h3
  have e4 := congrArg BitVec.toNat h4
  have l1 := w.isLt
  have l2 := w'.isLt
  simp only [opOf, selOf, rsvOf, dataOf, BitVec.extractLsb'_toNat, Nat.shiftRight_eq_div_pow] at e1 e2 e3 e4
  omega

/-! ## Operand fields -/

@[simp] theorem dataOfD16_toNat (v : Half) : (dataOfD16 v).toNat = v.toNat := by
  have h := v.isLt
  simp only [dataOfD16, BitVec.toNat_setWidth]; omega

@[simp] theorem dataOfD1_toNat (b : Bool) : (dataOfD1 b).toNat = b.toNat := by
  cases b <;> decide

/-- All `readOperands` can do when it gives a command: rsv is 0 and both operand fields read (R70). -/
theorem readOperands_eq_ok {α β : Type} (w : Word) (sel : BitVec 4 → Option α) (data : BitVec 48 → Option β)
    (mk : α → β → Instr) (i : Instr) :
    readOperands w sel data mk = .ok i ↔
      rsvOf w = 0#4 ∧ ∃ a b, sel (selOf w) = some a ∧ data (dataOf w) = some b ∧ i = mk a b := by
  unfold readOperands
  by_cases h : rsvOf w = 0#4
  · rw [if_pos h]
    cases ha : sel (selOf w) with
    | none => simp [h]
    | some a =>
      cases hb : data (dataOf w) with
      | none => simp [h]
      | some b => simp [h, eq_comm]
  · rw [if_neg h]
    exact ⟨fun e => (nomatch e), fun e => absurd e.1 h⟩

/-! Each operand form reads back what the encoder put there, and reads nothing else. -/

@[simp] theorem widthOfSel_sel (w : Width) : widthOfSel w.sel = some w := by cases w <;> rfl

@[simp] theorem bankOfSel_sel (h : Bank) : bankOfSel h.sel = some h := by cases h <;> rfl

@[simp] theorem etherTypeOfBit_bit (e : EtherType) : etherTypeOfBit e.bit = e := by cases e <;> rfl

@[simp] theorem d16OfData_dataOfD16 (v : Half) : d16OfData (dataOfD16 v) = some v := by
  have h := v.isLt
  have e1 : (dataOfD16 v).extractLsb' 16 32 = 0#32 := by
    apply BitVec.eq_of_toNat_eq
    simp only [BitVec.extractLsb'_toNat, dataOfD16_toNat, Nat.shiftRight_eq_div_pow, BitVec.toNat_ofNat]; omega
  have e2 : (dataOfD16 v).extractLsb' 0 16 = v := by
    apply BitVec.eq_of_toNat_eq
    simp only [BitVec.extractLsb'_toNat, dataOfD16_toNat, Nat.shiftRight_eq_div_pow]; omega
  rw [d16OfData, if_pos e1, e2]

@[simp] theorem d1OfData_dataOfD1 (b : Bool) : d1OfData (dataOfD1 b) = some b := by cases b <;> decide

@[simp] theorem etherTypeOfData_bit (e : EtherType) : etherTypeOfData (dataOfD1 e.bit) = some e := by
  simp [etherTypeOfData]

theorem widthOfSel_eq_some (sel : BitVec 4) (w : Width) : widthOfSel sel = some w ↔ sel = w.sel := by
  revert sel; cases w <;> decide

theorem bankOfSel_eq_some (sel : BitVec 4) (h : Bank) : bankOfSel sel = some h ↔ sel = h.sel := by
  revert sel; cases h <;> decide

theorem unusedSel_eq_some (sel : BitVec 4) (u : Unit) : unusedSel sel = some u ↔ sel = 0#4 := by
  unfold unusedSel; split <;> simp_all

theorem unusedData_eq_some (data : BitVec 48) (u : Unit) : unusedData data = some u ↔ data = 0#48 := by
  unfold unusedData; split <;> simp_all

theorem d16OfData_eq_some (data : BitVec 48) (v : Half) : d16OfData data = some v ↔ data = dataOfD16 v := by
  constructor
  · intro h
    unfold d16OfData at h
    split at h
    · rename_i h0
      injection h with h
      have e0 := congrArg BitVec.toNat h0
      have e1 := congrArg BitVec.toNat h
      have l := data.isLt
      apply BitVec.eq_of_toNat_eq
      simp only [BitVec.extractLsb'_toNat, Nat.shiftRight_eq_div_pow, BitVec.toNat_ofNat] at e0 e1
      rw [dataOfD16_toNat]; omega
    · cases h
  · rintro rfl; exact d16OfData_dataOfD16 v

theorem d1OfData_eq_some (data : BitVec 48) (b : Bool) : d1OfData data = some b ↔ data = dataOfD1 b := by
  constructor
  · intro h
    unfold d1OfData at h
    split at h
    · rename_i h0
      injection h with h
      have e0 := congrArg BitVec.toNat h0
      have l := data.isLt
      have t := BitVec.testBit_toNat data (i := 0)
      rw [h, Nat.testBit_zero] at t
      apply BitVec.eq_of_toNat_eq
      simp only [BitVec.extractLsb'_toNat, Nat.shiftRight_eq_div_pow, BitVec.toNat_ofNat] at e0
      rw [dataOfD1_toNat]
      cases b <;> simp at t ⊢ <;> omega
    · cases h
  · rintro rfl; exact d1OfData_dataOfD1 b

end Sys2Proof
end

