-- ==== Sys2Proof/Laws/State.lean ====
section
/-! SUPPORT. One lemma per field per update of the state: what each named update leaves in each field, true by `rfl`. -/

namespace Sys2Proof.Machine

/-! ## The registers of the block under each write -/

@[simp] theorem writePrim_tag (b : Block) (w : Width) (v : Half) : (writePrim b w v).tag = b.tag := by cases w <;> rfl
@[simp] theorem writePrim_h0 (b : Block) (w : Width) (v : Half) : (writePrim b w v).h0 = b.h0 := by cases w <;> rfl
@[simp] theorem writePrim_h1 (b : Block) (w : Width) (v : Half) : (writePrim b w v).h1 = b.h1 := by cases w <;> rfl

/-- A write to U[w] leaves every other primitive register alone. -/
theorem readPrim_writePrim_of_ne (b : Block) (w w' : Width) (v : Half) (h : w' ≠ w) :
    readPrim (writePrim b w v) w' = readPrim b w' := by
  cases w <;> cases w' <;> first | rfl | exact absurd rfl h

@[simp] theorem writeTag_u1 (b : Block) (t : Tag) : (writeTag b t).u1 = b.u1 := rfl
@[simp] theorem writeTag_u2 (b : Block) (t : Tag) : (writeTag b t).u2 = b.u2 := rfl
@[simp] theorem writeTag_u3 (b : Block) (t : Tag) : (writeTag b t).u3 = b.u3 := rfl
@[simp] theorem writeTag_u4 (b : Block) (t : Tag) : (writeTag b t).u4 = b.u4 := rfl
@[simp] theorem writeTag_u12 (b : Block) (t : Tag) : (writeTag b t).u12 = b.u12 := rfl
@[simp] theorem writeTag_tag (b : Block) (t : Tag) : (writeTag b t).tag = t := rfl
@[simp] theorem writeTag_h0 (b : Block) (t : Tag) : (writeTag b t).h0 = b.h0 := rfl
@[simp] theorem writeTag_h1 (b : Block) (t : Tag) : (writeTag b t).h1 = b.h1 := rfl

@[simp] theorem writeTpid_u1 (b : Block) (v : Half) : (writeTpid b v).u1 = b.u1 := rfl
@[simp] theorem writeTpid_u2 (b : Block) (v : Half) : (writeTpid b v).u2 = b.u2 := rfl
@[simp] theorem writeTpid_u3 (b : Block) (v : Half) : (writeTpid b v).u3 = b.u3 := rfl
@[simp] theorem writeTpid_u4 (b : Block) (v : Half) : (writeTpid b v).u4 = b.u4 := rfl
@[simp] theorem writeTpid_u12 (b : Block) (v : Half) : (writeTpid b v).u12 = b.u12 := rfl
@[simp] theorem writeTpid_tpid (b : Block) (v : Half) : (writeTpid b v).tag.tpid = v := rfl
@[simp] theorem writeTpid_tci (b : Block) (v : Half) : (writeTpid b v).tag.tci = b.tag.tci := rfl
@[simp] theorem writeTpid_h0 (b : Block) (v : Half) : (writeTpid b v).h0 = b.h0 := rfl
@[simp] theorem writeTpid_h1 (b : Block) (v : Half) : (writeTpid b v).h1 = b.h1 := rfl

@[simp] theorem writeTci_u1 (b : Block) (v : Half) : (writeTci b v).u1 = b.u1 := rfl
@[simp] theorem writeTci_u2 (b : Block) (v : Half) : (writeTci b v).u2 = b.u2 := rfl
@[simp] theorem writeTci_u3 (b : Block) (v : Half) : (writeTci b v).u3 = b.u3 := rfl
@[simp] theorem writeTci_u4 (b : Block) (v : Half) : (writeTci b v).u4 = b.u4 := rfl
@[simp] theorem writeTci_u12 (b : Block) (v : Half) : (writeTci b v).u12 = b.u12 := rfl
@[simp] theorem writeTci_tpid (b : Block) (v : Half) : (writeTci b v).tag.tpid = b.tag.tpid := rfl
@[simp] theorem writeTci_tci (b : Block) (v : Half) : (writeTci b v).tag.tci = v := rfl
@[simp] theorem writeTci_h0 (b : Block) (v : Half) : (writeTci b v).h0 = b.h0 := rfl
@[simp] theorem writeTci_h1 (b : Block) (v : Half) : (writeTci b v).h1 = b.h1 := rfl

@[simp] theorem writeHdr_u1 (b : Block) (h : Bank) (hd : Header) : (writeHdr b h hd).u1 = b.u1 := by cases h <;> rfl
@[simp] theorem writeHdr_u2 (b : Block) (h : Bank) (hd : Header) : (writeHdr b h hd).u2 = b.u2 := by cases h <;> rfl
@[simp] theorem writeHdr_u3 (b : Block) (h : Bank) (hd : Header) : (writeHdr b h hd).u3 = b.u3 := by cases h <;> rfl
@[simp] theorem writeHdr_u4 (b : Block) (h : Bank) (hd : Header) : (writeHdr b h hd).u4 = b.u4 := by cases h <;> rfl
@[simp] theorem writeHdr_u12 (b : Block) (h : Bank) (hd : Header) : (writeHdr b h hd).u12 = b.u12 := by cases h <;> rfl
@[simp] theorem writeHdr_tag (b : Block) (h : Bank) (hd : Header) : (writeHdr b h hd).tag = b.tag := by cases h <;> rfl

@[simp] theorem readHdr_writeHdr (b : Block) (h : Bank) (hd : Header) : readHdr (writeHdr b h hd) h = hd := by cases h <;> rfl

/-- A write to bank h leaves the other bank alone. -/
theorem readHdr_writeHdr_of_ne (b : Block) (h h' : Bank) (hd : Header) (hne : h' ≠ h) :
    readHdr (writeHdr b h hd) h' = readHdr b h' := by
  cases h <;> cases h' <;> first | rfl | exact absurd rfl hne

@[simp] theorem readPrim_writeTag (b : Block) (t : Tag) (w : Width) : readPrim (writeTag b t) w = readPrim b w := by
  cases w <;> rfl
@[simp] theorem readPrim_writeTpid (b : Block) (v : Half) (w : Width) : readPrim (writeTpid b v) w = readPrim b w := by
  cases w <;> rfl
@[simp] theorem readPrim_writeTci (b : Block) (v : Half) (w : Width) : readPrim (writeTci b v) w = readPrim b w := by
  cases w <;> rfl
@[simp] theorem readPrim_writeHdr (b : Block) (h : Bank) (hd : Header) (w : Width) :
    readPrim (writeHdr b h hd) w = readPrim b w := by
  cases w <;> cases h <;> rfl
@[simp] theorem readHdr_writeTag (b : Block) (t : Tag) (h : Bank) : readHdr (writeTag b t) h = readHdr b h := by
  cases h <;> rfl
@[simp] theorem readHdr_writeTpid (b : Block) (v : Half) (h : Bank) : readHdr (writeTpid b v) h = readHdr b h := by
  cases h <;> rfl
@[simp] theorem readHdr_writeTci (b : Block) (v : Half) (h : Bank) : readHdr (writeTci b v) h = readHdr b h := by
  cases h <;> rfl
@[simp] theorem readHdr_writePrim (b : Block) (w : Width) (v : Half) (h : Bank) :
    readHdr (writePrim b w v) h = readHdr b h := by
  cases h <;> cases w <;> rfl

/-! ## The host's side under `issue` -/

@[simp] theorem issue_blk (s : State) (rest : List HostEvent) : (issue s rest).blk = s.blk := rfl
@[simp] theorem issue_cfg (s : State) (rest : List HostEvent) : (issue s rest).cfg = s.cfg := rfl
@[simp] theorem issue_pending (s : State) (rest : List HostEvent) : (issue s rest).pending = rest := rfl
@[simp] theorem issue_resp (s : State) (rest : List HostEvent) : (issue s rest).resp = s.resp := rfl
@[simp] theorem issue_idx (s : State) (rest : List HostEvent) : (issue s rest).idx = s.idx + 1 := rfl

@[simp] theorem withFetchWord_blk (s : State) (n w : Nat) : (s.withFetchWord n w).blk = s.blk := rfl
@[simp] theorem withFetchWord_cfg (s : State) (n w : Nat) : (s.withFetchWord n w).cfg = s.cfg := rfl
@[simp] theorem withFetchWord_resp (s : State) (n w : Nat) : (s.withFetchWord n w).resp = s.resp := rfl
@[simp] theorem withFetchWord_idx (s : State) (n w : Nat) : (s.withFetchWord n w).idx = s.idx := rfl
@[simp] theorem withFetchWord_pending (s : State) (n w : Nat) :
    (s.withFetchWord n w).pending = .command (tableWord n w) :: s.pending := rfl

end Sys2Proof.Machine
end

