-- ==== Sys2Proof/Laws/Ops.lean ====
section
/-! SUPPORT. One lemma per shared operation that says all it can do, and the arithmetic of responses and TCI fields. -/

namespace Sys2Proof.Machine

/-! ## How a command ends -/

/-- `respond` has one answer: the given block, the response word, the host's side as it was. -/
theorem respond_eq_next_iff (s t : State) (b : Block) (st : Status) (rd : RData) :
    respond s b st rd = .next t ↔ t = { s with blk := b, resp := some (respWord st rd) } := by
  constructor
  · intro h; injection h with h; exact h.symm
  · rintro rfl; rfl

/-- `raise` leaves everything but the response alone. -/
theorem raise_eq_next_iff (s t : State) (e : Status) :
    raise s e = .next t ↔ t = { s with resp := some (respWord e 0) } := by
  unfold raise; exact respond_eq_next_iff s t s.blk e 0

theorem respondRead_eq_next_iff (s t : State) (rd : RData) :
    respondRead s rd = .next t ↔ t = { s with resp := some (respWord .ok rd) } := by
  unfold respondRead; exact respond_eq_next_iff s t s.blk .ok rd

theorem respondWrite_eq_next_iff (s t : State) (b : Block) :
    respondWrite s b = .next t ↔ t = { s with blk := b, resp := some (respWord .ok 0) } := by
  unfold respondWrite; exact respond_eq_next_iff s t b .ok 0

/-! ## Response words as numbers -/

/-- The value of a response word: its status code times 2^60, and its read data (R64). -/
theorem respWord_toNat (st : Status) (rd : RData) : (respWord st rd).toNat = (statusCode st).toNat * 2 ^ 60 + rd.toNat := by
  have h := rd.isLt
  simp only [respWord, BitVec.toNat_append, BitVec.toNat_ofNat]
  rw [← Nat.shiftLeft_add_eq_or_of_lt (by omega)]
  simp only [Nat.shiftLeft_eq]
  cases st <;> simp [statusCode]

@[simp] theorem respStatus_respWord (st : Status) (rd : RData) : respStatus (respWord st rd) = statusCode st := by
  apply BitVec.eq_of_toNat_eq
  have h := rd.isLt
  simp only [respStatus, BitVec.extractLsb'_toNat, respWord_toNat]
  cases st <;> simp [statusCode, Nat.shiftRight_eq_div_pow] <;> omega

@[simp] theorem respData_respWord (st : Status) (rd : RData) : respData (respWord st rd) = rd := by
  apply BitVec.eq_of_toNat_eq
  have h := rd.isLt
  simp only [respData, BitVec.extractLsb'_toNat, respWord_toNat]
  cases st <;> simp [statusCode] <;> omega

@[simp] theorem boolData_toNat (b : Bool) : (boolData b).toNat = b.toNat := by cases b <;> rfl

/-! ## Primitive registers -/

/-- What a primitive register reads after a value within its range was written to it: that value, nothing lost (R101). -/
theorem readPrim_writePrim_of_inRange (b : Block) (w : Width) (v : Half) (h : inRange w v = true) :
    readPrim (writePrim b w v) w = v := by
  apply BitVec.eq_of_toNat_eq
  have h : v.toNat ≤ maxValue w := of_decide_eq_true h
  cases w <;> simp only [maxValue, widthBits] at h <;> simp only [readPrim, writePrim, BitVec.toNat_setWidth] <;> omega

/-- Whatever a primitive register holds, writing zero makes it read zero (R100). -/
@[simp] theorem readPrim_writePrim_zero (b : Block) (w : Width) : readPrim (writePrim b w 0#16) w = 0#16 := by cases w <;> rfl

/-! ## TCI fields as numbers (R24) -/

theorem pcpOf_toNat (t : Half) : (pcpOf t).toNat = t.toNat / 8192 := by
  have h := t.isLt
  simp only [pcpOf, BitVec.extractLsb'_toNat, Nat.shiftRight_eq_div_pow]; omega

theorem deiOf_toNat (t : Half) : (deiOf t).toNat = t.toNat / 4096 % 2 := by
  simp only [deiOf, BitVec.extractLsb'_toNat, Nat.shiftRight_eq_div_pow]

theorem vidOf_toNat (t : Half) : (vidOf t).toNat = t.toNat % 4096 := by
  simp only [vidOf, BitVec.extractLsb'_toNat, Nat.shiftRight_eq_div_pow]; omega

/-- A TCI is its three sub-fields: they cover all 16 bits (R24). -/
theorem tci_ext (t u : Half) (hp : pcpOf t = pcpOf u) (hd : deiOf t = deiOf u) (hv : vidOf t = vidOf u) : t = u := by
  apply BitVec.eq_of_toNat_eq
  have h1 := congrArg BitVec.toNat hp
  have h2 := congrArg BitVec.toNat hd
  have h3 := congrArg BitVec.toNat hv
  rw [pcpOf_toNat, pcpOf_toNat] at h1
  rw [deiOf_toNat, deiOf_toNat] at h2
  rw [vidOf_toNat, vidOf_toNat] at h3
  omega

/-! What each sub-field write leaves in each sub-field (R127, R129, R131). -/

@[simp] theorem pcpOf_withPcp (t v : Half) : pcpOf (withPcp t v) = v.extractLsb' 0 3 := by
  apply BitVec.eq_of_getElem_eq; intro i hi
  simp only [pcpOf, withPcp]
  interval_cases i <;> simp

@[simp] theorem pcpOf_withDei (t : Half) (b : Bool) : pcpOf (withDei t b) = pcpOf t := by
  apply BitVec.eq_of_getElem_eq; intro i hi
  simp only [pcpOf, withDei]
  interval_cases i <;> simp

@[simp] theorem pcpOf_withVid_clear (t v : Half) : pcpOf (withVid .clear t v) = pcpOf t := by
  apply BitVec.eq_of_getElem_eq; intro i hi
  simp only [pcpOf, withVid]
  interval_cases i <;> simp

@[simp] theorem pcpOf_withVid_additiveOr (t v : Half) : pcpOf (withVid .additiveOr t v) = pcpOf t := by
  apply BitVec.eq_of_getElem_eq; intro i hi
  simp only [pcpOf, withVid]
  interval_cases i <;> simp

@[simp] theorem deiOf_withPcp (t v : Half) : deiOf (withPcp t v) = deiOf t := by
  apply BitVec.eq_of_getElem_eq; intro i hi
  simp only [deiOf, withPcp]
  interval_cases i; simp

@[simp] theorem deiOf_withDei (t : Half) (b : Bool) : deiOf (withDei t b) = BitVec.ofBool b := by
  apply BitVec.eq_of_getElem_eq; intro i hi
  simp only [deiOf, withDei]
  interval_cases i; simp

@[simp] theorem deiOf_withVid_clear (t v : Half) : deiOf (withVid .clear t v) = deiOf t := by
  apply BitVec.eq_of_getElem_eq; intro i hi
  simp only [deiOf, withVid]
  interval_cases i; simp

@[simp] theorem deiOf_withVid_additiveOr (t v : Half) : deiOf (withVid .additiveOr t v) = deiOf t := by
  apply BitVec.eq_of_getElem_eq; intro i hi
  simp only [deiOf, withVid]
  interval_cases i; simp

@[simp] theorem vidOf_withPcp (t v : Half) : vidOf (withPcp t v) = vidOf t := by
  apply BitVec.eq_of_getElem_eq; intro i hi
  simp only [vidOf, withPcp]
  interval_cases i <;> simp

@[simp] theorem vidOf_withDei (t : Half) (b : Bool) : vidOf (withDei t b) = vidOf t := by
  apply BitVec.eq_of_getElem_eq; intro i hi
  simp only [vidOf, withDei]
  interval_cases i <;> simp

@[simp] theorem vidOf_withVid_clear (t v : Half) : vidOf (withVid .clear t v) = v.extractLsb' 0 12 := by
  apply BitVec.eq_of_getElem_eq; intro i hi
  simp only [vidOf, withVid]
  interval_cases i <;> simp

@[simp] theorem vidOf_withVid_additiveOr (t v : Half) : vidOf (withVid .additiveOr t v) = vidOf t ||| v.extractLsb' 0 12 := by
  apply BitVec.eq_of_getElem_eq; intro i hi
  simp only [vidOf, withVid]
  interval_cases i <;> simp

/-- In both modes a VID write leaves PCP alone (R131). -/
@[simp] theorem pcpOf_withVid (m : VidSetMode) (t v : Half) : pcpOf (withVid m t v) = pcpOf t := by cases m <;> simp

/-- In both modes a VID write leaves DEI alone (R131). -/
@[simp] theorem deiOf_withVid (m : VidSetMode) (t v : Half) : deiOf (withVid m t v) = deiOf t := by cases m <;> simp

/-! ## The checks -/

/-- The bounds check as an inequality of numbers (R101, R104). -/
theorem inRange_eq_true_iff (w : Width) (v : Half) : inRange w v = true ↔ v.toNat ≤ 2 ^ widthBits w - 1 := by
  rw [inRange, decide_eq_true_iff]; rfl

/-- tagEq is equality of the two options (R160). -/
theorem tagSlotEq_eq_true_iff (a b : Option Tag) : tagSlotEq a b = true ↔ a = b := by
  cases a <;> cases b <;> simp [tagSlotEq]
  rename_i x y; cases x; cases y; simp

/-- The comparison of two headers is equality (R160). -/
theorem headerEq_eq_true_iff (a b : Header) : headerEq a b = true ↔ a = b := by
  cases a; cases b; simp [headerEq, tagSlotEq_eq_true_iff, and_assoc]

/-- The read data of a present tag as a number (R157). -/
theorem presentTagData_toNat (t : Tag) : (presentTagData t).toNat = 2 ^ 32 + t.tpid.toNat * 2 ^ 16 + t.tci.toNat := by
  have h1 := t.tpid.isLt
  have h2 := t.tci.isLt
  have or_add : ∀ a b k : Nat, b < 2 ^ k → (a * 2 ^ k) ||| b = a * 2 ^ k + b := by
    intro a b k h
    have := (Nat.shiftLeft_add_eq_or_of_lt h a).symm
    rwa [Nat.shiftLeft_eq] at this
  simp only [presentTagData, BitVec.toNat_or, BitVec.toNat_shiftLeft, BitVec.toNat_setWidth, BitVec.toNat_ofNat,
    Nat.shiftLeft_eq]
  rw [Nat.mod_eq_of_lt (a := t.tpid.toNat) (by omega), Nat.mod_eq_of_lt (a := t.tci.toNat) (by omega),
    Nat.mod_eq_of_lt (a := t.tpid.toNat * 2 ^ 16) (by omega)]
  have e1 : (1 % 2 ^ 48 * 2 ^ 32 % 2 ^ 48 : Nat) = 1 * 2 ^ 32 := by norm_num
  rw [e1, or_add _ _ _ (by omega), show 1 * 2 ^ 32 + t.tpid.toNat * 2 ^ 16 = (2 ^ 16 + t.tpid.toNat) * 2 ^ 16 by omega,
    or_add _ _ _ (by omega)]
  omega

/-! ## The classifier -/

/-- The classifier's three outcomes by the value of the raw EtherType (R141). -/
theorem classify_cases (r : Half) :
    (r.toNat ≤ 1500 ∧ classify r = .error .etherTypeIsLength) ∨
    (r = 0x0800 ∧ classify r = .ok .ipv4) ∨
    (1500 < r.toNat ∧ r ≠ 0x0800 ∧ classify r = .error .unknownEtherType) := by
  unfold classify
  by_cases h : r.toNat ≤ lengthMax
  · left; exact ⟨h, by rw [if_pos h]⟩
  · right
    by_cases h2 : r = etherCode .ipv4
    · left; exact ⟨h2, by rw [if_neg h, if_pos h2]⟩
    · right; exact ⟨Nat.lt_of_not_le h, h2, by rw [if_neg h, if_neg h2]⟩

/-! ## A command -/

/-- All a command can do: it ends by responding, with some block, status and read data. -/
theorem exec_responds (i : Instr) (s : State) : ∃ b st rd, exec i s = respond s b st rd := by
  cases i
  case pTryFrom w v =>
    by_cases h : inRange w v = true
    · exact ⟨_, _, _, if_pos h⟩
    · exact ⟨_, _, _, if_neg h⟩
  case pSet w v =>
    by_cases h : inRange w v = true
    · exact ⟨_, _, _, if_pos h⟩
    · exact ⟨_, _, _, if_neg h⟩
  case tagSetPcp v =>
    by_cases h : v.toNat ≤ pcpMax
    · exact ⟨_, _, _, if_pos h⟩
    · exact ⟨_, _, _, if_neg h⟩
  case tagSetVid v =>
    by_cases h : v.toNat ≤ vidMax
    · exact ⟨_, _, _, if_pos h⟩
    · exact ⟨_, _, _, if_neg h⟩
  case etTryFrom h r =>
    rcases classify_cases r with ⟨_, hc⟩ | ⟨_, hc⟩ | ⟨_, _, hc⟩ <;> simp only [exec, execEtTryFrom, hc] <;> exact ⟨_, _, _, rfl⟩
  case hdrGetTag h =>
    cases ht : (readHdr s.blk h).tag <;> simp only [exec, execHdrGetTag, ht] <;> exact ⟨_, _, _, rfl⟩
  all_goals exact ⟨_, _, _, rfl⟩

/-! ## The step -/

/-- All a step can do, by what the host does next (R179, R180, R190). -/
theorem step_cases (s : State) :
    (s.pending = [] ∧ step s = idle s) ∨
    (∃ rest, s.pending = .reset :: rest ∧
      step s = hostReset s rest) ∨
    (∃ w rest i, s.pending = .command w :: rest ∧ decode w = .ok i ∧ step s = exec i (issue s rest)) ∨
    (∃ w rest e, s.pending = .command w :: rest ∧ decode w = .error e ∧ step s = illegalCommand (issue s rest)) := by
  rcases hp : s.pending with _ | ⟨w | _, rest⟩
  · exact .inl ⟨rfl, by simp only [step, hp]⟩
  · cases hd : decode w with
    | ok i => exact .inr (.inr (.inl ⟨w, rest, i, rfl, hd, by simp only [step, hp, hd]⟩))
    | error e => exact .inr (.inr (.inr ⟨w, rest, e, rfl, hd, by simp only [step, hp, hd]⟩))
  · exact .inr (.inl ⟨rest, rfl, by simp only [step, hp]⟩)

end Sys2Proof.Machine
end

