-- ==== Sys2Proof/Laws/PerInstr.lean ====
section
/-! SUPPORT. Statements made once per command: the word of every command is a legal word, by the table of R61. -/

namespace Sys2Proof.Laws

/-- A packed word is legal when its opcode is in the map and its fields are ones the row admits (R66 to R69). -/
theorem packWord_wellFormed (op : BitVec 8) (sel : BitVec 4) (data : BitVec 48) (ks : SelKind) (kd : DataKind)
    (hk : opcodeKinds op = some (ks, kd)) (hs : ks.admits sel = true) (hd : kd.admits data = true) :
    (rawOf (packWord op sel data)).wellFormed = true := by
  simp [RawCommand.wellFormed, RawCommand.opcodeDefined, RawCommand.rsvZero, RawCommand.selLegal, RawCommand.dataLegal,
    rawOf, hk, hs, hd]

theorem width_admits (w : Width) : SelKind.width.admits w.sel = true := by cases w <;> rfl

theorem bank_admits (h : Bank) : SelKind.bank.admits h.sel = true := by cases h <;> rfl

theorem d16_admits (v : Half) : DataKind.d16.admits (dataOfD16 v) = true := by
  simp only [DataKind.admits, dataOfD16_toNat, decide_eq_true_eq]; exact v.isLt

theorem d1_admits (b : Bool) : DataKind.d1.admits (dataOfD1 b) = true := by cases b <;> rfl

/-- The word of the command is a legal word. -/
def EncodeLegal.Statement (i : Instr) : Prop := (rawOf (encode i)).wellFormed = true

theorem EncodeLegal.pDefault (w : Width) : EncodeLegal.Statement (.pDefault w) :=
  packWord_wellFormed _ _ _ _ _ rfl (width_admits w) rfl

theorem EncodeLegal.pTryFrom (w : Width) (v : Half) : EncodeLegal.Statement (.pTryFrom w v) :=
  packWord_wellFormed _ _ _ _ _ rfl (width_admits w) (d16_admits v)

theorem EncodeLegal.pSet (w : Width) (v : Half) : EncodeLegal.Statement (.pSet w v) :=
  packWord_wellFormed _ _ _ _ _ rfl (width_admits w) (d16_admits v)

theorem EncodeLegal.pValue (w : Width) : EncodeLegal.Statement (.pValue w) :=
  packWord_wellFormed _ _ _ _ _ rfl (width_admits w) rfl

theorem EncodeLegal.pIsValid (w : Width) : EncodeLegal.Statement (.pIsValid w) :=
  packWord_wellFormed _ _ _ _ _ rfl (width_admits w) rfl

theorem EncodeLegal.pMin (w : Width) : EncodeLegal.Statement (.pMin w) :=
  packWord_wellFormed _ _ _ _ _ rfl (width_admits w) rfl

theorem EncodeLegal.pMax (w : Width) : EncodeLegal.Statement (.pMax w) :=
  packWord_wellFormed _ _ _ _ _ rfl (width_admits w) rfl

theorem EncodeLegal.pBits (w : Width) : EncodeLegal.Statement (.pBits w) :=
  packWord_wellFormed _ _ _ _ _ rfl (width_admits w) rfl

theorem EncodeLegal.tagDefault : EncodeLegal.Statement (.tagDefault) :=
  packWord_wellFormed _ _ _ _ _ rfl rfl rfl

theorem EncodeLegal.tagNew (v : Half) : EncodeLegal.Statement (.tagNew v) :=
  packWord_wellFormed _ _ _ _ _ rfl rfl (d16_admits v)

theorem EncodeLegal.tagWrTpid (v : Half) : EncodeLegal.Statement (.tagWrTpid v) :=
  packWord_wellFormed _ _ _ _ _ rfl rfl (d16_admits v)

theorem EncodeLegal.tagRdTpid : EncodeLegal.Statement (.tagRdTpid) :=
  packWord_wellFormed _ _ _ _ _ rfl rfl rfl

theorem EncodeLegal.tagRdTci : EncodeLegal.Statement (.tagRdTci) :=
  packWord_wellFormed _ _ _ _ _ rfl rfl rfl

theorem EncodeLegal.tagIsValid : EncodeLegal.Statement (.tagIsValid) :=
  packWord_wellFormed _ _ _ _ _ rfl rfl rfl

theorem EncodeLegal.tagGetPcp : EncodeLegal.Statement (.tagGetPcp) :=
  packWord_wellFormed _ _ _ _ _ rfl rfl rfl

theorem EncodeLegal.tagSetPcp (v : Half) : EncodeLegal.Statement (.tagSetPcp v) :=
  packWord_wellFormed _ _ _ _ _ rfl rfl (d16_admits v)

theorem EncodeLegal.tagGetDei : EncodeLegal.Statement (.tagGetDei) :=
  packWord_wellFormed _ _ _ _ _ rfl rfl rfl

theorem EncodeLegal.tagSetDei (b : Bool) : EncodeLegal.Statement (.tagSetDei b) :=
  packWord_wellFormed _ _ _ _ _ rfl rfl (d1_admits b)

theorem EncodeLegal.tagGetVid : EncodeLegal.Statement (.tagGetVid) :=
  packWord_wellFormed _ _ _ _ _ rfl rfl rfl

theorem EncodeLegal.tagSetVid (v : Half) : EncodeLegal.Statement (.tagSetVid v) :=
  packWord_wellFormed _ _ _ _ _ rfl rfl (d16_admits v)

theorem EncodeLegal.hdrDefault (h : Bank) : EncodeLegal.Statement (.hdrDefault h) :=
  packWord_wellFormed _ _ _ _ _ rfl (bank_admits h) rfl

theorem EncodeLegal.hdrWrSrc (h : Bank) (m : Mac) : EncodeLegal.Statement (.hdrWrSrc h m) :=
  packWord_wellFormed _ _ _ _ _ rfl (bank_admits h) rfl

theorem EncodeLegal.hdrWrDst (h : Bank) (m : Mac) : EncodeLegal.Statement (.hdrWrDst h m) :=
  packWord_wellFormed _ _ _ _ _ rfl (bank_admits h) rfl

theorem EncodeLegal.hdrRdSrc (h : Bank) : EncodeLegal.Statement (.hdrRdSrc h) :=
  packWord_wellFormed _ _ _ _ _ rfl (bank_admits h) rfl

theorem EncodeLegal.hdrRdDst (h : Bank) : EncodeLegal.Statement (.hdrRdDst h) :=
  packWord_wellFormed _ _ _ _ _ rfl (bank_admits h) rfl

theorem EncodeLegal.hdrSetTag (h : Bank) : EncodeLegal.Statement (.hdrSetTag h) :=
  packWord_wellFormed _ _ _ _ _ rfl (bank_admits h) rfl

theorem EncodeLegal.hdrClrTag (h : Bank) : EncodeLegal.Statement (.hdrClrTag h) :=
  packWord_wellFormed _ _ _ _ _ rfl (bank_admits h) rfl

theorem EncodeLegal.hdrGetTag (h : Bank) : EncodeLegal.Statement (.hdrGetTag h) :=
  packWord_wellFormed _ _ _ _ _ rfl (bank_admits h) rfl

theorem EncodeLegal.hdrSetEtype (h : Bank) (e : EtherType) : EncodeLegal.Statement (.hdrSetEtype h e) :=
  packWord_wellFormed _ _ _ _ _ rfl (bank_admits h) (d1_admits e.bit)

theorem EncodeLegal.hdrRdEtype (h : Bank) : EncodeLegal.Statement (.hdrRdEtype h) :=
  packWord_wellFormed _ _ _ _ _ rfl (bank_admits h) rfl

theorem EncodeLegal.etTryFrom (h : Bank) (r : Half) : EncodeLegal.Statement (.etTryFrom h r) :=
  packWord_wellFormed _ _ _ _ _ rfl (bank_admits h) (d16_admits r)

theorem EncodeLegal.hdrEq : EncodeLegal.Statement (.hdrEq) :=
  packWord_wellFormed _ _ _ _ _ rfl rfl rfl

end Sys2Proof.Laws
end

