-- ==== Sys2Proof/Tests/Slice0.lean ====
section
/-! SUPPORT. Tests. Every expected word and value is written out from the spec: the rules' own examples and encodings, and the
tables V-P, V-T1, V-T2, V-E, V-H and V-I of 95_test_vectors.md. The last part holds a witness for the hypotheses of each
statement that has any. -/

open Sys2Proof Sys2Proof.Machine

namespace Sys2Proof.Tests

/-! ## Small states -/

/-- A configuration with named defaults, so that a test can tell them from other values. -/
def cfgClear : Params := { vidSetMode := .clear, tciDefault := 0x1234, macDefault := 0x0A0B0C0D0E0F }

/-- The same with VID_SET_MODE = OR. -/
def cfgOr : Params := { cfgClear with vidSetMode := .additiveOr }

/-- A state with something in every register; bank H0 is tagged, bank H1 is not. -/
def sample : State :=
  { blk := { u1 := 1, u2 := 3, u3 := 5, u4 := 9, u12 := 0xABC, tag := { tpid := 0x8100, tci := 0xA00A },
             h0 := { src := 0x001122334455, dst := 0x02AABBCCDDEE, tag := some { tpid := 0x8100, tci := 0x2064 }, etype := .ipv4 },
             h1 := { src := 0x001122334455, dst := 0x02AABBCCDDEE, tag := none, etype := .empty } },
    cfg := cfgClear, pending := [], resp := none, idx := 0 }

/-- `sample` with another block. -/
def withBlk (b : Block) : State := { sample with blk := b }

/-- `sample` with this TCI in TAG. -/
def withTci (v : Half) : State := withBlk (writeTci sample.blk v)

/-- `sample` with this TPID in TAG. -/
def withTpid (v : Half) : State := withBlk (writeTpid sample.blk v)

/-- `sample` in OR mode with this TCI in TAG. -/
def inOrMode (v : Half) : State := { withTci v with cfg := cfgOr }

/-- A state no run reaches: U2 holds 4. -/
def outOfRange : State := withBlk (writePrim sample.blk .u2 4)

/-- `sample` with both banks equal: IPv4, no tag. -/
def equalBanks : State :=
  withBlk { sample.blk with
    h0 := { src := 1, dst := 2, tag := none, etype := .ipv4 }, h1 := { src := 1, dst := 2, tag := none, etype := .ipv4 } }

/-- `sample` with this event next. -/
def next (e : HostEvent) : State := { sample with pending := [e] }

/-- The state an answer holds; `sample` where it holds none. -/
def stateOf : Result → State
  | .next t => t
  | .fault _ => sample
  | .refused _ => sample

/-- The response and the block after one step on this command word; none where the step answers no next state. -/
def outcome (w : Nat) (s : State) : Option (Option Word × Block) :=
  match step (s.withFetchWord 64 w) with
  | .next t => some (t.resp, t.blk)
  | .fault _ => none
  | .refused _ => none

/-! ## WellFormed: each check refuses an ill-formed word (R66 to R69) -/

theorem test_wellFormed_accepts : (rawOf 0x1240000000000FFF).wellFormed = true := by decide
theorem test_wellFormed_refuses_opcode :
    (rawOf 0x2C00000000000000).opcodeDefined = false ∧ (rawOf 0x2C00000000000000).wellFormed = false := by decide
theorem test_wellFormed_refuses_rsv :
    (rawOf 0x1341000000000000).rsvZero = false ∧ (rawOf 0x1341000000000000).wellFormed = false := by decide
theorem test_wellFormed_refuses_width :
    (rawOf 0x1150000000000001).selLegal = false ∧ (rawOf 0x1150000000000001).wellFormed = false := by decide
theorem test_wellFormed_refuses_bank :
    (rawOf 0x3020000000000000).selLegal = false ∧ (rawOf 0x3020000000000000).wellFormed = false := by decide
theorem test_wellFormed_refuses_unused_sel :
    (rawOf 0x3B10000000000000).selLegal = false ∧ (rawOf 0x3B10000000000000).wellFormed = false := by decide
theorem test_wellFormed_refuses_d16 :
    (rawOf 0x1240000000010000).dataLegal = false ∧ (rawOf 0x1240000000010000).wellFormed = false := by decide
theorem test_wellFormed_refuses_d1 :
    (rawOf 0x2900000000000002).dataLegal = false ∧ (rawOf 0x2900000000000002).wellFormed = false := by decide
theorem test_wellFormed_refuses_unused_data :
    (rawOf 0x1340000000000001).dataLegal = false ∧ (rawOf 0x1340000000000001).wellFormed = false := by decide

/-! ## Decoding: one written-out word per constructor, from R61 and the encodings of R100 to R160 -/

theorem test_decode_pDefault : decode 0x1020000000000000 = .ok (.pDefault .u3) := by decide
theorem test_decode_pTryFrom : decode 0x113000000000000F = .ok (.pTryFrom .u4 15) := by decide
theorem test_decode_pSet : decode 0x1240000000000FFF = .ok (.pSet .u12 0xFFF) := by decide
theorem test_decode_pValue : decode 0x1340000000000000 = .ok (.pValue .u12) := by decide
theorem test_decode_pIsValid : decode 0x1410000000000000 = .ok (.pIsValid .u2) := by decide
theorem test_decode_pMin : decode 0x1540000000000000 = .ok (.pMin .u12) := by decide
theorem test_decode_pMax : decode 0x1620000000000000 = .ok (.pMax .u3) := by decide
theorem test_decode_pBits : decode 0x1700000000000000 = .ok (.pBits .u1) := by decide
theorem test_decode_tagDefault : decode 0x2000000000000000 = .ok (.tagDefault) := by decide
theorem test_decode_tagNew : decode 0x210000000000A00A = .ok (.tagNew 0xA00A) := by decide
theorem test_decode_tagWrTpid : decode 0x22000000000088A8 = .ok (.tagWrTpid 0x88A8) := by decide
theorem test_decode_tagRdTpid : decode 0x2300000000000000 = .ok (.tagRdTpid) := by decide
theorem test_decode_tagRdTci : decode 0x2400000000000000 = .ok (.tagRdTci) := by decide
theorem test_decode_tagIsValid : decode 0x2500000000000000 = .ok (.tagIsValid) := by decide
theorem test_decode_tagGetPcp : decode 0x2600000000000000 = .ok (.tagGetPcp) := by decide
theorem test_decode_tagSetPcp : decode 0x2700000000000008 = .ok (.tagSetPcp 8) := by decide
theorem test_decode_tagGetDei : decode 0x2800000000000000 = .ok (.tagGetDei) := by decide
theorem test_decode_tagSetDei : decode 0x2900000000000001 = .ok (.tagSetDei true) := by decide
theorem test_decode_tagGetVid : decode 0x2A00000000000000 = .ok (.tagGetVid) := by decide
theorem test_decode_tagSetVid : decode 0x2B00000000001000 = .ok (.tagSetVid 0x1000) := by decide
theorem test_decode_hdrDefault : decode 0x3010000000000000 = .ok (.hdrDefault .h1) := by decide
theorem test_decode_hdrWrSrc : decode 0x3100001122334455 = .ok (.hdrWrSrc .h0 0x001122334455) := by decide
theorem test_decode_hdrWrDst : decode 0x3210FFFFFFFFFFFF = .ok (.hdrWrDst .h1 0xFFFFFFFFFFFF) := by decide
theorem test_decode_hdrRdSrc : decode 0x3310000000000000 = .ok (.hdrRdSrc .h1) := by decide
theorem test_decode_hdrRdDst : decode 0x3410000000000000 = .ok (.hdrRdDst .h1) := by decide
theorem test_decode_hdrSetTag : decode 0x3510000000000000 = .ok (.hdrSetTag .h1) := by decide
theorem test_decode_hdrClrTag : decode 0x3610000000000000 = .ok (.hdrClrTag .h1) := by decide
theorem test_decode_hdrGetTag : decode 0x3710000000000000 = .ok (.hdrGetTag .h1) := by decide
theorem test_decode_hdrSetEtype : decode 0x3810000000000001 = .ok (.hdrSetEtype .h1 .ipv4) := by decide
theorem test_decode_hdrRdEtype : decode 0x3910000000000000 = .ok (.hdrRdEtype .h1) := by decide
theorem test_decode_etTryFrom : decode 0x3A100000000005DC = .ok (.etTryFrom .h1 1500) := by decide
theorem test_decode_hdrEq : decode 0x3B00000000000000 = .ok (.hdrEq) := by decide

theorem test_decode_tableWord : decodeTableWord 64 0x1240000000000FFF = some (.pSet .u12 0xFFF) := by decide
/-- An opcode-table row that gives fewer bits than a command: the bits above are 0. -/
theorem test_decode_tableWord_ignores_bits_above_nbits : decodeTableWord 8 0x1240000000000FFF = none := by decide
/-- The all-zero and the all-one word are no commands (V-I rows 1 and 2). -/
theorem test_decode_zero_and_ones :
    decode 0x0000000000000000 = .error .undefinedOpcode ∧ decode 0xFFFFFFFFFFFFFFFF = .error .undefinedOpcode := by decide
/-- A word that fails checks 2, 3 and 4 is named by check 2, one that fails 3 and 4 by check 3 (R70). -/
theorem test_decode_order :
    decode 0x1351000000000001 = .error .reservedNonzero ∧ decode 0x1350000000000001 = .error .selectorIllegal ∧
    decode 0x1340000000000001 = .error .dataNonzero := by decide

/-! ## One step per command -/

/-- R100's example: U3 = 5 becomes 0. -/
theorem test_P_DEFAULT : outcome 0x1020000000000000 sample = some (some 0x0000000000000000, writePrim sample.blk .u3 0) := by decide

/-- R101's example. -/
theorem test_P_TRYFROM_fits : outcome 0x113000000000000F sample = some (some 0x000000000000000F, { sample.blk with u4 := 15 }) := by decide

/-- R101's example. -/
theorem test_P_TRYFROM_too_great : outcome 0x1130000000000010 sample = some (some 0x1000000000000000, sample.blk) := by decide

/-- R102's example: U1 = 1 becomes 0. -/
theorem test_P_SET_fits : outcome 0x1200000000000000 sample = some (some 0x0000000000000000, { sample.blk with u1 := 0 }) := by decide

/-- V-P row 5 for P_SET (R102: the same bounds): 0x100 does not fit U1. -/
theorem test_P_SET_never_truncates : outcome 0x1200000000000100 sample = some (some 0x1000000000000000, sample.blk) := by decide

/-- R103's example: U12 = 0xABC. -/
theorem test_P_VALUE : outcome 0x1340000000000000 sample = some (some 0x0000000000000ABC, sample.blk) := by decide

/-- R104's example: U2 = 3. -/
theorem test_P_ISVALID : outcome 0x1410000000000000 sample = some (some 0x0000000000000001, sample.blk) := by decide

/-- R104: the comparison is computed; U2 = 4 is not valid. -/
theorem test_P_ISVALID_computes : outcome 0x1410000000000000 outOfRange = some (some 0x0000000000000000, outOfRange.blk) := by decide

/-- R105's example. -/
theorem test_P_MIN : outcome 0x1540000000000000 sample = some (some 0x0000000000000000, sample.blk) := by decide

/-- R106's example. -/
theorem test_P_MAX : outcome 0x1620000000000000 sample = some (some 0x0000000000000007, sample.blk) := by decide

/-- R107's example. -/
theorem test_P_BITS : outcome 0x1740000000000000 sample = some (some 0x000000000000000C, sample.blk) := by decide

/-- R120: the standard TPID and TCI_DEFAULT, 0x1234 in this configuration. -/
theorem test_TAG_DEFAULT : outcome 0x2000000000000000 (withTpid 0x88A8) = some (some 0x0000000000000000, { sample.blk with tag := { tpid := 0x8100, tci := 0x1234 } }) := by decide

/-- R121: the old TPID is overwritten; V-T1 row 3. -/
theorem test_TAG_NEW : outcome 0x210000000000FFFF (withTpid 0x88A8) = some (some 0x0000000000000000, { sample.blk with tag := { tpid := 0x8100, tci := 0xFFFF } }) := by decide

/-- R122's example; TAG.tci stays. -/
theorem test_TAG_WR_TPID : outcome 0x22000000000088A8 sample = some (some 0x0000000000000000, { sample.blk with tag := { tpid := 0x88A8, tci := 0xA00A } }) := by decide

/-- V-T1 row 23. -/
theorem test_TAG_RD_TPID : outcome 0x2300000000000000 (withTpid 0x88A8) = some (some 0x00000000000088A8, (withTpid 0x88A8).blk) := by decide

/-- R124's example. -/
theorem test_TAG_RD_TCI : outcome 0x2400000000000000 sample = some (some 0x000000000000A00A, sample.blk) := by decide

/-- V-T1 row 28. -/
theorem test_TAG_ISVALID : outcome 0x2500000000000000 sample = some (some 0x0000000000000001, sample.blk) := by decide

/-- R122's example; V-T1 row 22. -/
theorem test_TAG_ISVALID_foreign : outcome 0x2500000000000000 (withTpid 0x88A8) = some (some 0x0000000000000000, (withTpid 0x88A8).blk) := by decide

/-- R126's example: TCI = 0xA00A. -/
theorem test_TAG_GET_PCP : outcome 0x2600000000000000 sample = some (some 0x0000000000000005, sample.blk) := by decide

/-- R127's example. -/
theorem test_TAG_SET_PCP : outcome 0x2700000000000000 (withTci 0xFFFF) = some (some 0x0000000000000000, (withTci 0x1FFF).blk) := by decide

/-- V-T1 row 8. -/
theorem test_TAG_SET_PCP_too_great : outcome 0x2700000000000008 sample = some (some 0x1000000000000000, sample.blk) := by decide

/-- R128's example. -/
theorem test_TAG_GET_DEI : outcome 0x2800000000000000 (withTci 0x1000) = some (some 0x0000000000000001, (withTci 0x1000).blk) := by decide

/-- R129's example. -/
theorem test_TAG_SET_DEI : outcome 0x2900000000000001 (withTci 0x0FFF) = some (some 0x0000000000000000, (withTci 0x1FFF).blk) := by decide

/-- V-T1 row 10. -/
theorem test_TAG_SET_DEI_false : outcome 0x2900000000000000 (withTci 0xFFFF) = some (some 0x0000000000000000, (withTci 0xEFFF).blk) := by decide

/-- R130's example: TCI = 0xA00A. -/
theorem test_TAG_GET_VID : outcome 0x2A00000000000000 sample = some (some 0x000000000000000A, sample.blk) := by decide

/-- R131's example, CLEAR mode. -/
theorem test_TAG_SET_VID_clear : outcome 0x2B0000000000000A (withTci 0x0005) = some (some 0x0000000000000000, (withTci 0x000A).blk) := by decide

/-- R131's example, OR mode; V-T2 row 2. -/
theorem test_TAG_SET_VID_or : outcome 0x2B0000000000000A (inOrMode 0x0005) = some (some 0x0000000000000000, (withTci 0x000F).blk) := by decide

/-- R150: the tag present before is discarded; MAC_DEFAULT is 0x0A0B0C0D0E0F in this configuration. -/
theorem test_HDR_DEFAULT : outcome 0x3000000000000000 sample = some (some 0x0000000000000000, { sample.blk with h0 := { src := 0x0A0B0C0D0E0F, dst := 0x0A0B0C0D0E0F, tag := none, etype := .empty } }) := by decide

/-- R151; the word of P3 idx 1. -/
theorem test_HDR_WR_SRC : outcome 0x310002AABBCCDDEE sample = some (some 0x0000000000000000, { sample.blk with h0 := { sample.blk.h0 with src := 0x02AABBCCDDEE } }) := by decide

/-- R152's example. -/
theorem test_HDR_WR_DST : outcome 0x3210FFFFFFFFFFFF sample = some (some 0x0000000000000000, { sample.blk with h1 := { sample.blk.h1 with dst := 0xFFFFFFFFFFFF } }) := by decide

/-- R153's example. -/
theorem test_HDR_RD_SRC : outcome 0x3300000000000000 sample = some (some 0x0000001122334455, sample.blk) := by decide

/-- R154. -/
theorem test_HDR_RD_DST : outcome 0x3410000000000000 sample = some (some 0x000002AABBCCDDEE, sample.blk) := by decide

/-- R155: a copy of TAG; V-H row 23. -/
theorem test_HDR_SET_TAG : outcome 0x3510000000000000 sample = some (some 0x0000000000000000, { sample.blk with h1 := { sample.blk.h1 with tag := some { tpid := 0x8100, tci := 0xA00A } } }) := by decide

/-- R156; V-H row 31. -/
theorem test_HDR_CLR_TAG : outcome 0x3600000000000000 sample = some (some 0x0000000000000000, { sample.blk with h0 := { sample.blk.h0 with tag := none } }) := by decide

/-- R157's example; V-H row 21. -/
theorem test_HDR_GET_TAG_present : outcome 0x3700000000000000 sample = some (some 0x0000000181002064, { sample.blk with tag := { tpid := 0x8100, tci := 0x2064 } }) := by decide

/-- R157: an absent tag leaves TAG alone; V-H row 35. -/
theorem test_HDR_GET_TAG_absent : outcome 0x3710000000000000 sample = some (some 0x0000000000000000, sample.blk) := by decide

/-- V-H row 13. -/
theorem test_HDR_SET_ETYPE_ipv4 : outcome 0x3810000000000001 sample = some (some 0x0000000000000000, { sample.blk with h1 := { sample.blk.h1 with etype := .ipv4 } }) := by decide

/-- V-E row 14. -/
theorem test_HDR_SET_ETYPE_empty : outcome 0x3800000000000000 sample = some (some 0x0000000000000000, { sample.blk with h0 := { sample.blk.h0 with etype := .empty } }) := by decide

/-- V-E row 13. -/
theorem test_HDR_RD_ETYPE_ipv4 : outcome 0x3900000000000000 sample = some (some 0x0000000000000800, sample.blk) := by decide

/-- R159: the code of Empty. -/
theorem test_HDR_RD_ETYPE_empty : outcome 0x3910000000000000 sample = some (some 0x0000000000000000, sample.blk) := by decide

/-- V-E row 15. -/
theorem test_ET_TRYFROM_ipv4 : outcome 0x3A10000000000800 sample = some (some 0x0000000000000800, { sample.blk with h1 := { sample.blk.h1 with etype := .ipv4 } }) := by decide

/-- V-E row 3: 1500 is a length, the bound included. -/
theorem test_ET_TRYFROM_bound : outcome 0x3A000000000005DC sample = some (some 0x2000000000000000, sample.blk) := by decide

/-- R160: a present tag never equals an absent one. -/
theorem test_HDR_EQ_different : outcome 0x3B00000000000000 sample = some (some 0x0000000000000000, sample.blk) := by decide

/-- V-H row 34. -/
theorem test_HDR_EQ_equal : outcome 0x3B00000000000000 equalBanks = some (some 0x0000000000000001, equalBanks.blk) := by decide

/-- V-I row 5. -/
theorem test_ILLEGAL_COMMAND : outcome 0x2C00000000000000 sample = some (some 0x4000000000000000, sample.blk) := by decide

/-- R173: an illegal word is reported before any range check; TAG_SET_PCP 8 with data[16] = 1. -/
theorem test_ILLEGAL_before_range : outcome 0x2700000000010008 sample = some (some 0x4000000000000000, sample.blk) := by decide

/-! ## The host's side -/

/-- Reset gives no response and the reset values, the configuration as it was (R190). -/
theorem test_reset_event : step (next .reset) = .next { sample with blk := Block.atReset cfgClear } := rfl

/-- The index moves on by 1 for a failed command too (R33). -/
theorem test_index_counts_failures : (stateOf (step (next (.command 0x1130000000000010)))).idx = 1 := by decide

/-- The assembler on numerals, MACs, comments and refusals (R72). -/
theorem test_assembler_numerals :
    assembleLine "P_SET U4, 0b1111" = some [0x123000000000000F] ∧
    assembleLine "HDR_WR_SRC H0, 0x001122334455" = some [0x3100001122334455] ∧
    assembleLine "; a comment" = some [] ∧ assembleLine "P_VALUE U5" = none := by
  refine ⟨?_, ?_, ?_, ?_⟩ <;> decide +kernel

/-- The pseudo-instructions expand as P4 of the test programs shows (R73). -/
theorem test_assembler_pseudo :
    assembleProgram ["TAG_LOAD 0x88A8, 0x6007", "HDR_NEW_TAGGED H0, 0x02AABBCCDDEE, 0xFFFFFFFFFFFF, IPV4"] =
      some [0x2100000000006007, 0x22000000000088A8, 0x3000000000000000, 0x310002AABBCCDDEE, 0x3200FFFFFFFFFFFF,
            0x3800000000000001, 0x3500000000000000] := by
  decide +kernel

/-! ## Witnesses: the hypotheses of each statement that has any are met, each clause at a boundary of its range -/

theorem sample_primsInRange : primsInRange sample.blk := by intro w; cases w <;> decide

theorem test_witness_PTryFromStoresAndReturnsInRange :
    ((0xFFF : Half).toNat ≤ 2 ^ widthBits .u12 - 1) ∧ (2 ^ widthBits .u12 - 1 < (0x1000 : Half).toNat) := by
  decide

theorem test_witness_PSetStoresInRange :
    ((1 : Half).toNat ≤ 2 ^ widthBits .u1 - 1) ∧ (2 ^ widthBits .u1 - 1 < (2 : Half).toNat) := by
  decide

theorem test_witness_PValueReturnsTheRegister :
    primsInRange sample.blk := by
  exact sample_primsInRange

/-- U2 at 3 and, in a state no run reaches, at 4. -/
theorem test_witness_PIsValidComparesWithMax :
    primsInRange sample.blk ∧ ((readPrim sample.blk .u2).toNat ≤ 2 ^ widthBits .u2 - 1) ∧
      (2 ^ widthBits .u2 - 1 < (readPrim outOfRange.blk .u2).toNat) := by
  exact ⟨sample_primsInRange, by decide, by decide⟩

theorem test_witness_PTryFromThenValueReturnsIt :
    ∃ t, exec (.pTryFrom .u4 15) sample = .next t ∧ lastOk t = true := by
  exact ⟨_, rfl, by decide⟩

theorem test_witness_PSetThenValueReturnsNewOrOld :
    ((15 : Half).toNat ≤ 2 ^ widthBits .u4 - 1) ∧ (2 ^ widthBits .u4 - 1 < (16 : Half).toNat) := by
  decide

theorem test_witness_PrimChangesOnlyByItsOwnCommands :
    (∃ t, exec (.pDefault .u3) sample = .next t ∧ readPrim t.blk .u3 ≠ readPrim sample.blk .u3) ∧
    (∃ t, exec (.pTryFrom .u3 7) sample = .next t ∧ readPrim t.blk .u3 ≠ readPrim sample.blk .u3) ∧
    (∃ t, exec (.pSet .u3 7) sample = .next t ∧ readPrim t.blk .u3 ≠ readPrim sample.blk .u3) := by
  exact ⟨⟨_, rfl, by decide⟩, ⟨_, rfl, by decide⟩, ⟨_, rfl, by decide⟩⟩

theorem test_witness_TagRawReadsAndValidity :
    sample.blk.tag.tpid.toNat = 0x8100 ∧ (withTpid 0x8101).blk.tag.tpid.toNat ≠ 0x8100 := by
  decide

theorem test_witness_TagSetPcpWritesPcpOnly :
    (7 : Half).toNat ≤ 7 ∧ 7 < (8 : Half).toNat := by
  decide

theorem test_witness_TagSetVidInBothModes :
    (0xFFF : Half).toNat ≤ 0xFFF ∧ 0xFFF < (0x1000 : Half).toNat ∧ sample.cfg.vidSetMode = .clear ∧
      (inOrMode 5).cfg.vidSetMode = .additiveOr := by
  decide

theorem test_witness_TagSettersAreIndependent :
    (∃ t, exec (.tagSetPcp 7) sample = .next t ∧ t.blk ≠ sample.blk) ∧
    (∃ t, exec (.tagSetDei true) sample = .next t ∧ t.blk ≠ sample.blk) ∧
    (∃ t, exec (.tagSetVid 0xFFF) sample = .next t ∧ t.blk ≠ sample.blk) ∧
    (∃ t, exec (.tagSetVid 0xFFF) (inOrMode 5) = .next t ∧ t.blk ≠ (inOrMode 5).blk) := by
  exact ⟨⟨_, rfl, by decide⟩, ⟨_, rfl, by decide⟩, ⟨_, rfl, by decide⟩, ⟨_, rfl, by decide⟩⟩

theorem test_witness_ClearModeKeepsLastValueOfEachField :
    sample.cfg.vidSetMode = .clear := by
  rfl

theorem test_witness_OrModeAccumulatesVid :
    (inOrMode 5).cfg.vidSetMode = .additiveOr := by
  rfl

/-- Both sides of the second hypothesis: CLEAR, and OR with a VID of 0. -/
theorem test_witness_TagRoundTripInAllSixOrders :
    ([.vid 0x123, .pcp 5, .dei true] : List TagSetter).Perm [.pcp 5, .dei true, .vid 0x123] ∧
    sample.cfg.vidSetMode = .clear ∧ (inOrMode 0xF000).cfg.vidSetMode = .additiveOr ∧ vidOf (inOrMode 0xF000).blk.tag.tci = 0#12 := by
  decide

theorem test_witness_TpidAndTciAreIndependent :
    (∃ t, exec .tagDefault (withTpid 0x88A8) = .next t ∧ t.blk.tag.tpid ≠ (withTpid 0x88A8).blk.tag.tpid) ∧
    (∃ t, exec (.tagNew 0) (withTpid 0x88A8) = .next t ∧ t.blk.tag.tpid ≠ (withTpid 0x88A8).blk.tag.tpid) ∧
    (∃ t, exec (.tagWrTpid 0x88A8) sample = .next t ∧ t.blk.tag.tpid ≠ sample.blk.tag.tpid) ∧
    (∃ t, exec (.hdrGetTag .h0) (withTpid 0x88A8) = .next t ∧ t.blk.tag.tpid ≠ (withTpid 0x88A8).blk.tag.tpid) ∧
    (Instr.tagGetPcp = .tagGetPcp ∨ Instr.tagGetPcp = .tagGetDei ∨ Instr.tagGetPcp = .tagGetVid ∨ Instr.tagGetPcp = .tagRdTci) := by
  exact ⟨⟨_, rfl, by decide⟩, ⟨_, rfl, by decide⟩, ⟨_, rfl, by decide⟩, ⟨_, rfl, by decide⟩, .inl rfl⟩

theorem test_witness_EtherTypeWriteAndRead :
    (readHdr sample.blk .h0).etype = .ipv4 ∧ (readHdr sample.blk .h1).etype = .empty := by
  decide

theorem test_witness_EtTryFromClassifies :
    (1500 : Half).toNat ≤ 1500 ∧ (0x0800 : Half).toNat = 0x0800 ∧
    (1500 < (1501 : Half).toNat ∧ (1501 : Half).toNat ≠ 0x0800) ∧ (1500 < (0x0801 : Half).toNat ∧ (0x0801 : Half).toNat ≠ 0x0800) := by
  decide

theorem test_witness_HdrGetTagCopiesPresentTag :
    (readHdr sample.blk .h0).tag = some { tpid := 0x8100, tci := 0x2064 } ∧ (readHdr sample.blk .h1).tag = none := by
  decide

theorem test_witness_HdrEqIsStructuralEquality :
    equalBanks.blk.h0 = equalBanks.blk.h1 ∧ sample.blk.h0 ≠ sample.blk.h1 := by
  decide

/-- With hd := equalBanks.blk.h0; a third MAC is new to either field, and the other two changes need no operand. -/
theorem test_witness_AnyOneFieldBreaksEquality :
    equalBanks.blk.h0.tag = none ∧ equalBanks.blk.h0.etype = .ipv4 ∧ equalBanks.blk.h1 = equalBanks.blk.h0 ∧
    (3 : Mac) ≠ equalBanks.blk.h0.src ∧ (3 : Mac) ≠ equalBanks.blk.h0.dst := by
  decide

theorem test_witness_TagsMoveOnlyByExplicitCopy :
    ∃ t, exec (.hdrGetTag .h0) sample = .next t ∧ t.blk.tag ≠ sample.blk.tag := by
  exact ⟨_, rfl, by decide⟩

theorem test_witness_MacAndEtherTypeChangeOnlyByTheirCommands :
    (∃ t, exec (.hdrWrSrc .h0 7) sample = .next t ∧ (readHdr t.blk .h0).src ≠ (readHdr sample.blk .h0).src) ∧
    (∃ t, exec (.hdrDefault .h0) sample = .next t ∧ (readHdr t.blk .h0).dst ≠ (readHdr sample.blk .h0).dst ∧
      (readHdr t.blk .h0).etype ≠ (readHdr sample.blk .h0).etype) ∧
    (∃ t, exec (.etTryFrom .h1 0x0800) sample = .next t ∧ (readHdr t.blk .h1).etype ≠ (readHdr sample.blk .h1).etype) := by
  exact ⟨⟨_, rfl, by decide⟩, ⟨_, rfl, by decide, by decide⟩, ⟨_, rfl, by decide⟩⟩

theorem test_witness_EncodeOfDecodeIsTheWord :
    decode 0x1240000000000FFF = .ok (.pSet .u12 0xFFF) := by
  decide

/-- One word for each of the four causes; width code 5 and D1 data 2 are the first values past the legal ones. -/
theorem test_witness_IllegalWordsAnswerIllegalCommand :
    (next (.command 0x2C00000000000000)).pending = .command 0x2C00000000000000 :: [] ∧
    opcodeKinds (opOf 0x2C00000000000000) = none ∧ (0x1341000000000000 : Word).toNat / 2 ^ 48 % 2 ^ 4 ≠ 0 ∧
    (opcodeKinds (opOf 0x1350000000000000) = some (.width, .unused) ∧ SelKind.width.admits (selOf 0x1350000000000000) = false) ∧
    (opcodeKinds (opOf 0x2900000000000002) = some (.unused, .d1) ∧ DataKind.d1.admits (dataOf 0x2900000000000002) = false) := by
  decide

theorem test_witness_StepRunsTheDecodedCommand :
    (next (.command 0x3B00000000000000)).pending = .command 0x3B00000000000000 :: [] ∧ decode 0x3B00000000000000 = .ok .hdrEq := by
  decide

theorem test_witness_HostResetRestoresResetValues :
    (next .reset).pending = .reset :: [] := by
  rfl

theorem test_witness_SilentHostLeavesTheBlockWaiting :
    sample.pending = [] ∧ sample.resp = none := by
  decide

theorem test_witness_DefaultCommandsEqualReset :
    (next .reset).pending = .reset :: [] ∧ (next .reset).cfg = sample.cfg := by
  decide

theorem test_witness_HdrEqAfterResetIsTrue :
    ({ sample with pending := [.reset, .command (encode .hdrEq)] } : State).pending = .reset :: .command (encode .hdrEq) :: [] := by
  rfl

theorem test_witness_EveryCommandGetsOneResponse :
    (next (.command 0)).pending = .command 0 :: [] ∧ ∀ w rest, (next .reset).pending ≠ .command w :: rest := by
  exact ⟨rfl, fun w rest h => by simp [next] at h⟩

theorem test_witness_StatusCausesAreTheTables :
    ∃ t, step (next (.command 0x3A000000000005DC)) = .next t ∧ t.resp = some 0x2000000000000000 ∧
    decode 0x3A000000000005DC = .ok (.etTryFrom .h0 1500) := by
  exact ⟨_, rfl, by decide, by decide⟩

theorem test_witness_FailedCommandWritesNothing :
    ∃ t, step (next (.command 0x2700000000000008)) = .next t ∧ t.resp = some 0x1000000000000000 ∧
    (0x1000000000000000 : Word).toNat / 2 ^ 60 ≠ 0 := by
  exact ⟨_, rfl, by decide, by decide⟩

theorem test_witness_ReadsHaveNoSideEffect :
    readsOnly .tagGetVid = true := by
  rfl

theorem test_witness_RunIsTheFoldOfPortSteps :
    ({ sample with pending := [.command (encode .tagRdTci), .reset] } : State).pending =
      [.command (encode .tagRdTci)] ++ [.reset] := by
  rfl

theorem test_witness_ConfigurationIsFixedAndOpaque :
    (∃ t, step (next (.command 0x2B0000000000000A)) = .next t) ∧ Instr.tagSetVid 10 ≠ .tagDefault ∧
    (∀ h, Instr.tagSetVid 10 ≠ .hdrDefault h) ∧ ({ cfgClear with tciDefault := 0 } : Params).vidSetMode = sample.cfg.vidSetMode := by
  exact ⟨⟨_, rfl⟩, by decide, fun h => by cases h <;> decide, rfl⟩

theorem test_witness_StepKeepsTheInvariant :
    Inv sample ∧ ∃ t, step (next (.command 0x1240000000000FFF)) = .next t ∧ t.blk ≠ sample.blk := by
  exact ⟨⟨sample_primsInRange, fun r h => by cases h⟩, _, rfl, by decide⟩

theorem test_witness_ReachableRegistersAreInRange :
    ∃ t, Host.Core.run Sys2Proof.core 1
      { blk := Block.atReset cfgOr, cfg := cfgOr, pending := [.command 0x1240000000000FFF], resp := none, idx := 0 } = .next t ∧
      t.blk.u12 = 0xFFF := by
  exact ⟨_, rfl, by decide⟩

theorem test_witness_MacsAreOpaque :
    Function.Injective (fun m : Mac => m + 1) ∧ (∃ t, exec (.hdrRdSrc .h0) sample = .next t) ∧
    returnsMac (.hdrRdSrc .h0) = true ∧ returnsMac .hdrEq = false := by
  exact ⟨fun a b h => by simpa using h, ⟨_, rfl⟩, rfl, rfl⟩

theorem test_witness_EveryInRangeBlockIsReachable :
    primsInRange sample.blk := by
  exact sample_primsInRange

theorem test_witness_PseudoInstructionsHaveTheirEffect :
    ∃ t, step { sample with pending := .command 0x2700000000000008 :: sample.pending } = .next t ∧ lastOk t = false := by
  exact ⟨_, rfl, by decide⟩

end Sys2Proof.Tests
end

