-- ==== Sys2Proof/Certificates/Slice0/Constants.lean ====
section
/-! The constants of the primitive registers (R5, R20, R22): what each is at every width, and the spec's width table. -/

namespace Sys2Proof.Machine

/-- MIN_VALUE(W) = 0 at every width (R5). -/
@[simp] theorem minValue_eq_zero (w : Width) : minValue w = 0 := by cases w <;> rfl

/-- MAX_VALUE(W) in terms of BITS(W) (R5). -/
theorem maxValue_eq_two_pow_sub_one (w : Width) : maxValue w = 2 ^ widthBits w - 1 := rfl

/-- Settles O1: the two general laws hold at every width, and each row of the table is computed from the model's constants. -/
theorem widthTableIsTheSpecs : Obligations.WidthTableIsTheSpecs := by
  refine ⟨fun w => ⟨minValue_eq_zero w, maxValue_eq_two_pow_sub_one w⟩, ?u1, ?u2, ?u3, ?u4, ?u12⟩
  case u1 | u2 | u3 | u4 | u12 => decide

end Sys2Proof.Machine
end

section
/-! One equation for each way a command with a check, or one that looks at a tag slot, can end (R101, R102, R127, R131, R141,
R157). The other commands have one way, and `exec` of them is their `respond` by `rfl`. -/

namespace Sys2Proof.Machine

theorem exec_pTryFrom_of_inRange (s : State) (w : Width) (v : Half) (h : inRange w v = true) :
    exec (.pTryFrom w v) s = respond s (writePrim s.blk w v) .ok (v.setWidth 48) := if_pos h

theorem exec_pTryFrom_of_not_inRange (s : State) (w : Width) (v : Half) (h : ¬ inRange w v = true) :
    exec (.pTryFrom w v) s = respond s s.blk .valueOutOfRange 0 := if_neg h

theorem exec_pSet_of_inRange (s : State) (w : Width) (v : Half) (h : inRange w v = true) :
    exec (.pSet w v) s = respond s (writePrim s.blk w v) .ok 0 := if_pos h

theorem exec_pSet_of_not_inRange (s : State) (w : Width) (v : Half) (h : ¬ inRange w v = true) :
    exec (.pSet w v) s = respond s s.blk .valueOutOfRange 0 := if_neg h

theorem exec_tagSetPcp_of_le (s : State) (v : Half) (h : v.toNat ≤ pcpMax) :
    exec (.tagSetPcp v) s = respond s (writeTci s.blk (withPcp s.blk.tag.tci v)) .ok 0 := if_pos h

theorem exec_tagSetPcp_of_not_le (s : State) (v : Half) (h : ¬ v.toNat ≤ pcpMax) :
    exec (.tagSetPcp v) s = respond s s.blk .valueOutOfRange 0 := if_neg h

theorem exec_tagSetVid_of_le (s : State) (v : Half) (h : v.toNat ≤ vidMax) :
    exec (.tagSetVid v) s = respond s (writeTci s.blk (withVid s.cfg.vidSetMode s.blk.tag.tci v)) .ok 0 := if_pos h

theorem exec_tagSetVid_of_not_le (s : State) (v : Half) (h : ¬ v.toNat ≤ vidMax) :
    exec (.tagSetVid v) s = respond s s.blk .valueOutOfRange 0 := if_neg h

theorem exec_hdrGetTag_of_some (s : State) (h : Bank) (t : Tag) (ht : (readHdr s.blk h).tag = some t) :
    exec (.hdrGetTag h) s = respond s (writeTag s.blk t) .ok (presentTagData t) := by
  simp only [exec, execHdrGetTag, ht]

theorem exec_hdrGetTag_of_none (s : State) (h : Bank) (ht : (readHdr s.blk h).tag = none) :
    exec (.hdrGetTag h) s = respond s s.blk .ok 0 := by
  simp only [exec, execHdrGetTag, ht, respondRead]

theorem exec_etTryFrom_of_ok (s : State) (h : Bank) (r : Half) (e : EtherType) (hc : classify r = .ok e) :
    exec (.etTryFrom h r) s = respond s (writeEtype s.blk h e) .ok ((etherCode e).setWidth 48) := by
  simp only [exec, execEtTryFrom, hc]

theorem exec_etTryFrom_of_error (s : State) (h : Bank) (r : Half) (st : Status) (hc : classify r = .error st) :
    exec (.etTryFrom h r) s = respond s s.blk st 0 := by
  simp only [exec, execEtTryFrom, hc, raise]

/-- The only raw EtherType the classifier accepts is 0x0800, as IPv4 (R141). -/
theorem eq_ipv4_of_classify_eq_ok (r : Half) (e : EtherType) (h : classify r = .ok e) : r = 0x0800 ∧ e = .ipv4 := by
  rcases classify_cases r with ⟨_, hc⟩ | ⟨hr, hc⟩ | ⟨_, _, hc⟩
  · simp [h] at hc
  · exact ⟨hr, Except.ok.inj (h.symm.trans hc)⟩
  · simp [h] at hc

end Sys2Proof.Machine
end

section
/-! What a command reads: the block, and of the configuration the one parameter its rule names (R31, R32, R179). -/

namespace Sys2Proof.Machine

/-- Two configurations agree on the parameter the command reads: TCI_DEFAULT for TAG_DEFAULT (R120), MAC_DEFAULT for
HDR_DEFAULT (R150), VID_SET_MODE for TAG_SET_VID (R131), and none for any other command. -/
def agreeForCommand (p q : Params) : Instr → Prop
  | .tagDefault => p.tciDefault = q.tciDefault
  | .hdrDefault _ => p.macDefault = q.macDefault
  | .tagSetVid _ => p.vidSetMode = q.vidSetMode
  | _ => True

theorem agreeForCommand_refl (p : Params) (i : Instr) : agreeForCommand p p i := by
  cases i <;> trivial

theorem agreeForCommand_of_ne (p q : Params) (i : Instr) (hTag : i ≠ .tagDefault) (hHdr : ∀ h, i ≠ .hdrDefault h)
    (hVid : (∃ v, i = .tagSetVid v) → p.vidSetMode = q.vidSetMode) : agreeForCommand p q i := by
  cases i
  case tagDefault => exact absurd rfl hTag
  case hdrDefault h => exact absurd rfl (hHdr h)
  case tagSetVid v => exact hVid ⟨v, rfl⟩
  all_goals trivial

/-- From two states with one block, and configurations that agree on what the command reads, a command ends with the same
block, status and read data, whatever the host's side and the response port hold. -/
theorem exec_respond_of_agree (i : Instr) (s u : State) (hb : u.blk = s.blk) (hc : agreeForCommand s.cfg u.cfg i) :
    ∃ b st rd, exec i s = respond s b st rd ∧ exec i u = respond u b st rd := by
  obtain ⟨b, p, _, _, _⟩ := s
  obtain ⟨_, q, _, _, _⟩ := u
  obtain rfl := hb
  cases i
  case pTryFrom w v =>
    by_cases h : inRange w v = true
    · exact ⟨_, _, _, exec_pTryFrom_of_inRange _ w v h, exec_pTryFrom_of_inRange _ w v h⟩
    · exact ⟨_, _, _, exec_pTryFrom_of_not_inRange _ w v h, exec_pTryFrom_of_not_inRange _ w v h⟩
  case pSet w v =>
    by_cases h : inRange w v = true
    · exact ⟨_, _, _, exec_pSet_of_inRange _ w v h, exec_pSet_of_inRange _ w v h⟩
    · exact ⟨_, _, _, exec_pSet_of_not_inRange _ w v h, exec_pSet_of_not_inRange _ w v h⟩
  case tagSetPcp v =>
    by_cases h : v.toNat ≤ pcpMax
    · exact ⟨_, _, _, exec_tagSetPcp_of_le _ v h, exec_tagSetPcp_of_le _ v h⟩
    · exact ⟨_, _, _, exec_tagSetPcp_of_not_le _ v h, exec_tagSetPcp_of_not_le _ v h⟩
  case tagSetVid v =>
    have hmode : p.vidSetMode = q.vidSetMode := hc
    by_cases h : v.toNat ≤ vidMax
    · exact ⟨_, _, _, exec_tagSetVid_of_le _ v h, by rw [exec_tagSetVid_of_le _ v h, hmode]⟩
    · exact ⟨_, _, _, exec_tagSetVid_of_not_le _ v h, exec_tagSetVid_of_not_le _ v h⟩
  case hdrGetTag h =>
    cases ht : (readHdr _ h).tag with
    | some t => exact ⟨_, _, _, exec_hdrGetTag_of_some _ h t ht, exec_hdrGetTag_of_some _ h t ht⟩
    | none => exact ⟨_, _, _, exec_hdrGetTag_of_none _ h ht, exec_hdrGetTag_of_none _ h ht⟩
  case etTryFrom h r =>
    cases hr : classify r with
    | ok e => exact ⟨_, _, _, exec_etTryFrom_of_ok _ h r e hr, exec_etTryFrom_of_ok _ h r e hr⟩
    | error st => exact ⟨_, _, _, exec_etTryFrom_of_error _ h r st hr, exec_etTryFrom_of_error _ h r st hr⟩
  case tagDefault =>
    have htci : p.tciDefault = q.tciDefault := hc
    exact ⟨_, _, _, rfl, by simp only [htci]; rfl⟩
  case hdrDefault h =>
    have hmac : p.macDefault = q.macDefault := hc
    exact ⟨_, _, _, rfl, by simp only [hmac]; rfl⟩
  all_goals exact ⟨_, _, _, rfl, rfl⟩

/-- What stands in the response port makes no difference to a command (R31). -/
theorem exec_with_resp (i : Instr) (s : State) (r : Option Word) : exec i { s with resp := r } = exec i s := by
  obtain ⟨b, st, rd, hs, hr⟩ := exec_respond_of_agree i s { s with resp := r } rfl (agreeForCommand_refl s.cfg i)
  rw [hs, hr]
  rfl

/-- Settles O50: each of the four things a step can do overwrites the response port, and the command, by `exec_with_resp`, does
not read it. -/
theorem noCommandSeesAnEarlierResponse : Obligations.NoCommandSeesAnEarlierResponse := by
  intro s r
  rcases hp : s.pending with _ | ⟨w | _, rest⟩
  · simp only [step, hp, idle]
  · cases hd : decode w with
    | ok i => simp only [step, hp, hd]; exact exec_with_resp i (issue s rest) r
    | error e => simp only [step, hp, hd]; rfl
  · simp only [step, hp, hostReset]

/-- No step writes the configuration (R32). -/
theorem step_cfg (s t : State) (h : step s = .next t) : t.cfg = s.cfg := by
  rcases step_cases s with ⟨_, hs⟩ | ⟨rest, _, hs⟩ | ⟨w, rest, i, _, _, hs⟩ | ⟨w, rest, e, _, _, hs⟩
  · rw [hs, idle] at h; cases h; rfl
  · rw [hs, hostReset] at h; cases h; rfl
  · obtain ⟨b, st, rd, he⟩ := exec_responds i (issue s rest)
    rw [hs, he, respond_eq_next_iff] at h
    rw [h, issue_cfg]
  · rw [hs, illegalCommand, raise_eq_next_iff] at h
    rw [h, issue_cfg]

/-- Settles O53: no step writes the configuration, and a command reads of it what `agreeForCommand` says. -/
theorem configurationIsFixedAndOpaque : Obligations.ConfigurationIsFixedAndOpaque := by
  refine ⟨step_cfg, fun i s p hTag hHdr hVid => ?_⟩
  have hagree : agreeForCommand s.cfg p i := agreeForCommand_of_ne s.cfg p i hTag hHdr (fun hv => (hVid hv).symm)
  obtain ⟨b, st, rd, hs, hp⟩ := exec_respond_of_agree i s { s with cfg := p } rfl hagree
  exact ⟨_, _, hs, hp, rfl, rfl⟩

end Sys2Proof.Machine
end

section
/-! What a command writes: one write to one register, TAG field or bank, or nothing (R30). -/

namespace Sys2Proof.Machine

/-- `BlockWrite s i b`: issued in state `s`, the command `i` may leave the block `b`. Each constructor is one kind of write, with
the commands that make it; every command may also write nothing. -/
inductive BlockWrite (s : State) : Instr → Block → Prop where
  | nothing (i : Instr) : BlockWrite s i s.blk
  | prim {i : Instr} {w : Width} {v : Half} (cmd : (i = .pDefault w ∧ v = 0#16) ∨ i = .pTryFrom w v ∨ i = .pSet w v)
      (fits : inRange w v = true) : BlockWrite s i (writePrim s.blk w v)
  | tag {i : Instr} {v : Half} (cmd : (i = .tagDefault ∧ v = s.cfg.tciDefault) ∨ i = .tagNew v) :
      BlockWrite s i (writeTag s.blk { tpid := tpidStd, tci := v })
  | tpid (v : Half) : BlockWrite s (.tagWrTpid v) (writeTpid s.blk v)
  | tci {i : Instr} (v : Half) (cmd : (∃ u, i = .tagSetPcp u) ∨ (∃ b, i = .tagSetDei b) ∨ (∃ u, i = .tagSetVid u)) :
      BlockWrite s i (writeTci s.blk v)
  | tagFromSlot {h : Bank} {t : Tag} (present : (readHdr s.blk h).tag = some t) :
      BlockWrite s (.hdrGetTag h) (writeTag s.blk t)
  | header (h : Bank) : BlockWrite s (.hdrDefault h)
      (writeHdr s.blk h { src := s.cfg.macDefault, dst := s.cfg.macDefault, tag := none, etype := .empty })
  | src (h : Bank) (m : Mac) : BlockWrite s (.hdrWrSrc h m) (writeSrc s.blk h m)
  | dst (h : Bank) (m : Mac) : BlockWrite s (.hdrWrDst h m) (writeDst s.blk h m)
  | slotFromTag (h : Bank) : BlockWrite s (.hdrSetTag h) (writeSlot s.blk h (some s.blk.tag))
  | clearSlot (h : Bank) : BlockWrite s (.hdrClrTag h) (writeSlot s.blk h none)
  | etype {i : Instr} {h : Bank} {e : EtherType} (cmd : i = .hdrSetEtype h e ∨ (i = .etTryFrom h 0x0800 ∧ e = .ipv4)) :
      BlockWrite s i (writeEtype s.blk h e)

/-- Zero is in the range of every primitive register (R100). -/
theorem inRange_zero (w : Width) : inRange w 0#16 = true := by cases w <;> rfl

/-- Every command makes one of the writes of `BlockWrite` and responds. -/
theorem exec_respond_blockWrite (i : Instr) (s : State) : ∃ b st rd, exec i s = respond s b st rd ∧ BlockWrite s i b := by
  cases i
  case pDefault w => exact ⟨_, _, _, rfl, .prim (.inl ⟨rfl, rfl⟩) (inRange_zero w)⟩
  case pTryFrom w v =>
    by_cases h : inRange w v = true
    · exact ⟨_, _, _, exec_pTryFrom_of_inRange s w v h, .prim (.inr (.inl rfl)) h⟩
    · exact ⟨_, _, _, exec_pTryFrom_of_not_inRange s w v h, .nothing _⟩
  case pSet w v =>
    by_cases h : inRange w v = true
    · exact ⟨_, _, _, exec_pSet_of_inRange s w v h, .prim (.inr (.inr rfl)) h⟩
    · exact ⟨_, _, _, exec_pSet_of_not_inRange s w v h, .nothing _⟩
  case tagDefault => exact ⟨_, _, _, rfl, .tag (.inl ⟨rfl, rfl⟩)⟩
  case tagNew v => exact ⟨_, _, _, rfl, .tag (.inr rfl)⟩
  case tagWrTpid v => exact ⟨_, _, _, rfl, .tpid v⟩
  case tagSetPcp v =>
    by_cases h : v.toNat ≤ pcpMax
    · exact ⟨_, _, _, exec_tagSetPcp_of_le s v h, .tci _ (.inl ⟨v, rfl⟩)⟩
    · exact ⟨_, _, _, exec_tagSetPcp_of_not_le s v h, .nothing _⟩
  case tagSetDei b => exact ⟨_, _, _, rfl, .tci _ (.inr (.inl ⟨b, rfl⟩))⟩
  case tagSetVid v =>
    by_cases h : v.toNat ≤ vidMax
    · exact ⟨_, _, _, exec_tagSetVid_of_le s v h, .tci _ (.inr (.inr ⟨v, rfl⟩))⟩
    · exact ⟨_, _, _, exec_tagSetVid_of_not_le s v h, .nothing _⟩
  case hdrDefault h => exact ⟨_, _, _, rfl, .header h⟩
  case hdrWrSrc h m => exact ⟨_, _, _, rfl, .src h m⟩
  case hdrWrDst h m => exact ⟨_, _, _, rfl, .dst h m⟩
  case hdrSetTag h => exact ⟨_, _, _, rfl, .slotFromTag h⟩
  case hdrClrTag h => exact ⟨_, _, _, rfl, .clearSlot h⟩
  case hdrGetTag h =>
    cases ht : (readHdr s.blk h).tag with
    | some t => exact ⟨_, _, _, exec_hdrGetTag_of_some s h t ht, .tagFromSlot ht⟩
    | none => exact ⟨_, _, _, exec_hdrGetTag_of_none s h ht, .nothing _⟩
  case hdrSetEtype h e => exact ⟨_, _, _, rfl, .etype (.inl rfl)⟩
  case etTryFrom h r =>
    cases hr : classify r with
    | ok e =>
      obtain ⟨rfl, rfl⟩ := eq_ipv4_of_classify_eq_ok r e hr
      exact ⟨_, _, _, exec_etTryFrom_of_ok s h _ _ hr, .etype (.inr ⟨rfl, rfl⟩)⟩
    | error st => exact ⟨_, _, _, exec_etTryFrom_of_error s h r st hr, .nothing _⟩
  all_goals exact ⟨_, _, _, rfl, .nothing _⟩

/-- The block after a command is one that `BlockWrite` allows. -/
theorem blockWrite_of_exec (i : Instr) (s t : State) (h : exec i s = .next t) : BlockWrite s i t.blk := by
  obtain ⟨b, st, rd, he, hw⟩ := exec_respond_blockWrite i s
  rw [he, respond_eq_next_iff] at h
  rw [h]
  exact hw

/-! ## The tag slots and TAG under each write -/

@[simp] theorem slot_writeSrc (b : Block) (h h' : Bank) (m : Mac) :
    (readHdr (writeSrc b h m) h').tag = (readHdr b h').tag := by cases h <;> cases h' <;> rfl

@[simp] theorem slot_writeDst (b : Block) (h h' : Bank) (m : Mac) :
    (readHdr (writeDst b h m) h').tag = (readHdr b h').tag := by cases h <;> cases h' <;> rfl

@[simp] theorem slot_writeEtype (b : Block) (h h' : Bank) (e : EtherType) :
    (readHdr (writeEtype b h e) h').tag = (readHdr b h').tag := by cases h <;> cases h' <;> rfl

@[simp] theorem slot_writeSlot (b : Block) (h : Bank) (t : Option Tag) : (readHdr (writeSlot b h t) h).tag = t := by
  cases h <;> rfl

theorem slot_writeSlot_of_ne (b : Block) (h h' : Bank) (t : Option Tag) (hne : h' ≠ h) :
    (readHdr (writeSlot b h t) h').tag = (readHdr b h').tag := by
  rw [writeSlot, readHdr_writeHdr_of_ne b h h' _ hne]

@[simp] theorem writeSrc_tag (b : Block) (h : Bank) (m : Mac) : (writeSrc b h m).tag = b.tag := writeHdr_tag ..
@[simp] theorem writeDst_tag (b : Block) (h : Bank) (m : Mac) : (writeDst b h m).tag = b.tag := writeHdr_tag ..
@[simp] theorem writeSlot_tag (b : Block) (h : Bank) (t : Option Tag) : (writeSlot b h t).tag = b.tag := writeHdr_tag ..
@[simp] theorem writeEtype_tag (b : Block) (h : Bank) (e : EtherType) : (writeEtype b h e).tag = b.tag := writeHdr_tag ..

/-- A bank's tag is written by a copy of TAG into it, or emptied, by a command on that bank (R30, R155, R156, R150). -/
theorem BlockWrite.slot_cases {s : State} {i : Instr} {b : Block} (hw : BlockWrite s i b) (h : Bank) :
    (readHdr b h).tag = (readHdr s.blk h).tag ∨ (i = .hdrSetTag h ∧ (readHdr b h).tag = some s.blk.tag) ∨
      ((i = .hdrClrTag h ∨ i = .hdrDefault h) ∧ (readHdr b h).tag = none) := by
  cases hw
  case header h₀ =>
    by_cases hh : h = h₀
    · subst hh; exact .inr (.inr ⟨.inr rfl, by rw [readHdr_writeHdr]⟩)
    · exact .inl (by rw [readHdr_writeHdr_of_ne _ _ _ _ hh])
  case slotFromTag h₀ =>
    by_cases hh : h = h₀
    · subst hh; exact .inr (.inl ⟨rfl, slot_writeSlot ..⟩)
    · exact .inl (slot_writeSlot_of_ne _ _ _ _ hh)
  case clearSlot h₀ =>
    by_cases hh : h = h₀
    · subst hh; exact .inr (.inr ⟨.inl rfl, slot_writeSlot ..⟩)
    · exact .inl (slot_writeSlot_of_ne _ _ _ _ hh)
  all_goals exact .inl (by simp)

/-- TAG is written by a TAG_ command, or by HDR_GET_TAG with the tag of its bank (R30, R157). -/
theorem BlockWrite.tag_cases {s : State} {i : Instr} {b : Block} (hw : BlockWrite s i b) :
    b.tag = s.blk.tag ∨ (∃ h, i = .hdrGetTag h ∧ (readHdr s.blk h).tag = some b.tag) ∨
      i = .tagDefault ∨ (∃ v, i = .tagNew v) ∨ (∃ v, i = .tagWrTpid v) ∨
      (∃ v, i = .tagSetPcp v) ∨ (∃ b, i = .tagSetDei b) ∨ (∃ v, i = .tagSetVid v) := by
  cases hw
  case tag v cmd =>
    rcases cmd with ⟨rfl, _⟩ | rfl
    · exact .inr (.inr (.inl rfl))
    · exact .inr (.inr (.inr (.inl ⟨v, rfl⟩)))
  case tpid v => exact .inr (.inr (.inr (.inr (.inl ⟨v, rfl⟩))))
  case tci v cmd => exact .inr (.inr (.inr (.inr (.inr cmd))))
  case tagFromSlot h t present => exact .inr (.inl ⟨h, rfl, present⟩)
  all_goals exact .inl (by simp)

/-- Settles O34: of all the writes a command can make, `slot_cases` and `tag_cases` say which reach a tag. -/
theorem tagsMoveOnlyByExplicitCopy : Obligations.TagsMoveOnlyByExplicitCopy := by
  intro i s t h
  have hw : BlockWrite s i t.blk := blockWrite_of_exec i s t h
  exact ⟨hw.slot_cases, hw.tag_cases⟩

end Sys2Proof.Machine
end

section
/-! Reset (R34 to R36), and the range invariant R21 along every run. -/

namespace Sys2Proof.Machine

/-! ## The block after reset -/

@[simp] theorem readPrim_atReset (cfg : Params) (w : Width) : readPrim (Block.atReset cfg) w = 0#16 := by cases w <;> rfl

@[simp] theorem readHdr_atReset (cfg : Params) (h : Bank) : readHdr (Block.atReset cfg) h = Header.atReset cfg := by
  cases h <;> rfl

/-- Settles O46: State.reset is the reset block under the spec's configuration, read register by register. -/
theorem resetStateHasTheSpecsValues : Obligations.ResetStateHasTheSpecsValues := by
  refine ⟨fun w => ?prims, ?tpid, ?tci, fun h => ?banks⟩
  case prims => exact congrArg BitVec.toNat (readPrim_atReset Config.params w)
  case tpid => rfl
  case tci => rfl
  case banks => exact readHdr_atReset Config.params h

/-! ## The range invariant -/

theorem primsInRange_atReset (cfg : Params) : primsInRange (Block.atReset cfg) := by
  intro w
  rw [readPrim_atReset]
  exact Nat.zero_le _

/-- A store of a value that passed the bounds check keeps every register in range (R101, R102). -/
theorem primsInRange_writePrim (b : Block) (w : Width) (v : Half) (hb : primsInRange b) (hv : inRange w v = true) :
    primsInRange (writePrim b w v) := by
  intro w'
  by_cases hw : w' = w
  · subst hw
    rw [readPrim_writePrim_of_inRange b w' v hv]
    exact (inRange_eq_true_iff w' v).mp hv
  · rw [readPrim_writePrim_of_ne b w w' v hw]
    exact hb w'

/-- Registers are in range after any write a command can make: a primitive is stored only after its bounds check. -/
theorem BlockWrite.primsInRange {s : State} {i : Instr} {b : Block} (hw : BlockWrite s i b) (hs : primsInRange s.blk) :
    primsInRange b := by
  cases hw
  case prim w v fits cmd => exact primsInRange_writePrim s.blk w v hs fits
  all_goals
    intro w
    simpa [writeSrc, writeDst, writeSlot, writeEtype] using hs w

/-- Every step keeps the registers in range (R21). -/
theorem step_keeps_primsInRange (s t : State) (hs : primsInRange s.blk) (h : step s = .next t) : primsInRange t.blk := by
  rcases step_cases s with ⟨_, he⟩ | ⟨rest, _, he⟩ | ⟨w, rest, i, _, _, he⟩ | ⟨w, rest, e, _, _, he⟩
  · rw [he, idle] at h; cases h; exact hs
  · rw [he, hostReset] at h; cases h; exact primsInRange_atReset s.cfg
  · rw [he] at h; exact (blockWrite_of_exec i (issue s rest) t h).primsInRange hs
  · rw [he, illegalCommand, raise_eq_next_iff] at h; rw [h]; exact hs

/-- Induction along a run: what every step keeps holds after any number of steps. -/
theorem run_keeps (P : State → Prop) (hstep : ∀ s t, P s → step s = .next t → P t) (n : Nat) (s t : State) (hs : P s)
    (h : Host.Core.run Sys2Proof.core n s = .next t) : P t := by
  induction n generalizing s with
  | zero => cases h; exact hs
  | succ n ih =>
    cases hu : step s with
    | next u =>
      have hrun : Host.Core.run Sys2Proof.core (n + 1) s = Host.Core.run Sys2Proof.core n u := by
        simp only [Host.Core.run, Sys2Proof.core, hu]
      exact ih u (hstep s u hs hu) (hrun ▸ h)
    | fault r => cases r
    | refused r => simp [Host.Core.run, Sys2Proof.core, hu] at h

/-- Settles O56: the registers are in range at reset under every configuration, every step keeps them so, and so does a run. -/
theorem reachableRegistersAreInRange : Obligations.ReachableRegistersAreInRange := by
  intro cfg es n t h
  exact run_keeps (fun s => primsInRange s.blk) step_keeps_primsInRange n _ t (primsInRange_atReset cfg) h

end Sys2Proof.Machine
end

section
/-! Renaming MAC addresses (R27): every write commutes with the renaming, and the only rules that look at a MAC return it whole or
compare it for equality. -/

namespace Sys2Proof.Machine

/-- A block with the MACs of its banks renamed. -/
def renameBlock (f : Mac → Mac) (b : Block) : Block :=
  { b with h0 := renameHeader f b.h0, h1 := renameHeader f b.h1 }

@[simp] theorem renameState_blk (f : Mac → Mac) (s : State) : (renameState f s).blk = renameBlock f s.blk := rfl

/-! ## Reads of a renamed block -/

@[simp] theorem readPrim_renameBlock (f : Mac → Mac) (b : Block) (w : Width) : readPrim (renameBlock f b) w = readPrim b w := by
  cases w <;> rfl
@[simp] theorem readHdr_renameBlock (f : Mac → Mac) (b : Block) (h : Bank) :
    readHdr (renameBlock f b) h = renameHeader f (readHdr b h) := by
  cases h <;> rfl

theorem renameHeader_injective (f : Mac → Mac) (hf : Function.Injective f) : Function.Injective (renameHeader f) := by
  rintro ⟨src, dst, tag, etype⟩ ⟨src', dst', tag', etype'⟩ h
  simpa [renameHeader, hf.eq_iff] using h

/-- A one-to-one renaming makes no two MACs equal that were not, so header equality does not see it (R160). -/
theorem headerEq_renameHeader (f : Mac → Mac) (hf : Function.Injective f) (a b : Header) :
    headerEq (renameHeader f a) (renameHeader f b) = headerEq a b := by
  rw [Bool.eq_iff_iff, headerEq_eq_true_iff, headerEq_eq_true_iff, (renameHeader_injective f hf).eq_iff]

/-! ## Writes to a renamed block -/

theorem writePrim_renameBlock (f : Mac → Mac) (b : Block) (w : Width) (v : Half) :
    writePrim (renameBlock f b) w v = renameBlock f (writePrim b w v) := by cases w <;> rfl

theorem writeHdr_renameBlock (f : Mac → Mac) (b : Block) (h : Bank) (hd : Header) :
    writeHdr (renameBlock f b) h (renameHeader f hd) = renameBlock f (writeHdr b h hd) := by cases h <;> rfl

theorem writeSrc_renameBlock (f : Mac → Mac) (b : Block) (h : Bank) (m : Mac) :
    writeSrc (renameBlock f b) h (f m) = renameBlock f (writeSrc b h m) := by cases h <;> rfl

theorem writeDst_renameBlock (f : Mac → Mac) (b : Block) (h : Bank) (m : Mac) :
    writeDst (renameBlock f b) h (f m) = renameBlock f (writeDst b h m) := by cases h <;> rfl

theorem writeSlot_renameBlock (f : Mac → Mac) (b : Block) (h : Bank) (t : Option Tag) :
    writeSlot (renameBlock f b) h t = renameBlock f (writeSlot b h t) := by cases h <;> rfl

theorem writeEtype_renameBlock (f : Mac → Mac) (b : Block) (h : Bank) (e : EtherType) :
    writeEtype (renameBlock f b) h e = renameBlock f (writeEtype b h e) := by cases h <;> rfl

/-! ## Commands -/

/-- `Equivariant f i s`: the renamed command on the renamed state ends with the renamed block and the same response. -/
def Equivariant (f : Mac → Mac) (i : Instr) (s : State) : Prop :=
  ∃ b st rd, exec i s = respond s b st rd ∧
    exec (renameInstr f i) (renameState f s) = respond (renameState f s) (renameBlock f b) st rd

/-- Two runs of a command make it equivariant when their blocks differ by the renaming and their read data agree. -/
theorem Equivariant.of_respond {f : Mac → Mac} {i : Instr} {s : State} {b b' : Block} {st : Status} {rd rd' : RData}
    (hs : exec i s = respond s b st rd)
    (hr : exec (renameInstr f i) (renameState f s) = respond (renameState f s) b' st rd')
    (hb : b' = renameBlock f b) (hrd : rd' = rd) : Equivariant f i s := by
  subst hb hrd
  exact ⟨b, st, rd', hs, hr⟩

/-- Every command but the two that return a MAC commutes with a one-to-one renaming. -/
theorem equivariant_of_not_returnsMac (f : Mac → Mac) (hf : Function.Injective f) (i : Instr) (s : State)
    (hi : returnsMac i = false) : Equivariant f i s := by
  cases i
  case pDefault w => exact .of_respond rfl rfl (writePrim_renameBlock f s.blk w _) rfl
  case pTryFrom w v =>
    by_cases h : inRange w v = true
    · exact .of_respond (exec_pTryFrom_of_inRange s w v h) (exec_pTryFrom_of_inRange _ w v h)
        (writePrim_renameBlock f s.blk w v) rfl
    · exact .of_respond (exec_pTryFrom_of_not_inRange s w v h) (exec_pTryFrom_of_not_inRange _ w v h) rfl rfl
  case pSet w v =>
    by_cases h : inRange w v = true
    · exact .of_respond (exec_pSet_of_inRange s w v h) (exec_pSet_of_inRange _ w v h)
        (writePrim_renameBlock f s.blk w v) rfl
    · exact .of_respond (exec_pSet_of_not_inRange s w v h) (exec_pSet_of_not_inRange _ w v h) rfl rfl
  case pValue w => exact .of_respond rfl rfl rfl (by rw [renameState_blk, readPrim_renameBlock])
  case pIsValid w => exact .of_respond rfl rfl rfl (by rw [renameState_blk, readPrim_renameBlock])
  case tagSetPcp v =>
    by_cases h : v.toNat ≤ pcpMax
    · exact .of_respond (exec_tagSetPcp_of_le s v h) (exec_tagSetPcp_of_le _ v h) rfl rfl
    · exact .of_respond (exec_tagSetPcp_of_not_le s v h) (exec_tagSetPcp_of_not_le _ v h) rfl rfl
  case tagSetVid v =>
    by_cases h : v.toNat ≤ vidMax
    · exact .of_respond (exec_tagSetVid_of_le s v h) (exec_tagSetVid_of_le _ v h) rfl rfl
    · exact .of_respond (exec_tagSetVid_of_not_le s v h) (exec_tagSetVid_of_not_le _ v h) rfl rfl
  case hdrDefault h => exact .of_respond rfl rfl (writeHdr_renameBlock f s.blk h (Header.atReset s.cfg)) rfl
  case hdrWrSrc h m => exact .of_respond rfl rfl (writeSrc_renameBlock f s.blk h m) rfl
  case hdrWrDst h m => exact .of_respond rfl rfl (writeDst_renameBlock f s.blk h m) rfl
  case hdrRdSrc h => cases hi
  case hdrRdDst h => cases hi
  case hdrSetTag h => exact .of_respond rfl rfl (writeSlot_renameBlock f s.blk h _) rfl
  case hdrClrTag h => exact .of_respond rfl rfl (writeSlot_renameBlock f s.blk h _) rfl
  case hdrGetTag h =>
    have hslot : (readHdr (renameState f s).blk h).tag = (readHdr s.blk h).tag := by
      rw [renameState_blk, readHdr_renameBlock, renameHeader]
    cases ht : (readHdr s.blk h).tag with
    | some t =>
      exact .of_respond (exec_hdrGetTag_of_some s h t ht) (exec_hdrGetTag_of_some _ h t (hslot.trans ht)) rfl rfl
    | none => exact .of_respond (exec_hdrGetTag_of_none s h ht) (exec_hdrGetTag_of_none _ h (hslot.trans ht)) rfl rfl
  case hdrSetEtype h e => exact .of_respond rfl rfl (writeEtype_renameBlock f s.blk h e) rfl
  case hdrRdEtype h => exact .of_respond rfl rfl rfl (by rw [renameState_blk, readHdr_renameBlock, renameHeader])
  case etTryFrom h r =>
    cases hr : classify r with
    | ok e =>
      exact .of_respond (exec_etTryFrom_of_ok s h r e hr) (exec_etTryFrom_of_ok _ h r e hr)
        (writeEtype_renameBlock f s.blk h e) rfl
    | error st =>
      exact .of_respond (exec_etTryFrom_of_error s h r st hr) (exec_etTryFrom_of_error _ h r st hr) rfl rfl
  case hdrEq => exact .of_respond rfl rfl rfl (congrArg boolData (headerEq_renameHeader f hf s.blk.h0 s.blk.h1))
  all_goals exact .of_respond rfl rfl rfl rfl

/-- The two commands that return a MAC return the renamed MAC from a renamed state, and write nothing (R153, R154). -/
theorem exec_renameState_of_returnsMac (f : Mac → Mac) (i : Instr) (s : State) (hi : returnsMac i = true) :
    ∃ m, exec i s = respondRead s m ∧ exec (renameInstr f i) (renameState f s) = respondRead (renameState f s) (f m) := by
  cases i
  case hdrRdSrc h =>
    exact ⟨_, rfl, congrArg (fun hd : Header => respondRead (renameState f s) hd.src) (readHdr_renameBlock f s.blk h)⟩
  case hdrRdDst h =>
    exact ⟨_, rfl, congrArg (fun hd : Header => respondRead (renameState f s) hd.dst) (readHdr_renameBlock f s.blk h)⟩
  all_goals cases hi

/-- Settles O57: the two commands that return a MAC by `exec_renameState_of_returnsMac`, all others by
`equivariant_of_not_returnsMac`. -/
theorem macsAreOpaque : Obligations.MacsAreOpaque := by
  intro f hf i s t h
  cases hi : returnsMac i
  case true =>
    obtain ⟨m, hs, hr⟩ := exec_renameState_of_returnsMac f i s hi
    rw [hs, respondRead_eq_next_iff] at h
    subst h
    exact ⟨_, hr, rfl, fun hfalse => absurd hfalse (by decide), fun _ => ⟨m, rfl, rfl⟩⟩
  case false =>
    obtain ⟨b, st, rd, hs, hr⟩ := equivariant_of_not_returnsMac f hf i s hi
    rw [hs, respond_eq_next_iff] at h
    subst h
    exact ⟨_, hr, rfl, fun _ => rfl, fun htrue => absurd htrue (by decide)⟩

end Sys2Proof.Machine
end

section
/-! A run as a fold (R56, R179): a command's step is the port's step, whatever the host's side and the response port hold, and a
run takes the events one step each. -/

namespace Sys2Proof.Machine

/-! ## One event -/

/-- From two states with one configuration and one block, a command word ends with the same block, status and read data, be it
legal or not; only the index and the host's list are each state's own (R179). -/
theorem step_respond_of_command (s u : State) (c : Word) (rest rest' : List HostEvent) (hcfg : u.cfg = s.cfg)
    (hblk : u.blk = s.blk) (hs : s.pending = .command c :: rest) (hu : u.pending = .command c :: rest') :
    ∃ b st rd, step s = respond (issue s rest) b st rd ∧ step u = respond (issue u rest') b st rd := by
  cases hd : decode c with
  | ok i =>
    have hagree : agreeForCommand (issue s rest).cfg (issue u rest').cfg i := by
      rw [issue_cfg, issue_cfg, hcfg]
      exact agreeForCommand_refl s.cfg i
    simp only [step, hs, hu, hd]
    exact exec_respond_of_agree i (issue s rest) (issue u rest') hblk hagree
  | error e =>
    simp only [step, hs, hu, hd, illegalCommand, raise, issue_blk, hblk]
    exact ⟨_, _, _, rfl, rfl⟩

/-- The step that takes a command is the port's step on the block; beside it the word leaves the list and the index moves on by
one (R33, R74, R179). -/
theorem step_eq_portStep (s : State) (c : Word) (rest : List HostEvent) (hs : s.pending = .command c :: rest) :
    step s = .next { blk := (portStep s.cfg s.blk c).1, cfg := s.cfg, pending := rest,
                     resp := (portStep s.cfg s.blk c).2, idx := s.idx + 1 } := by
  obtain ⟨b, st, rd, hstep, hport⟩ := step_respond_of_command s
    { blk := s.blk, cfg := s.cfg, pending := [.command c], resp := none, idx := 0 } c rest [] rfl rfl hs rfl
  have hps : portStep s.cfg s.blk c = (b, some (respWord st rd)) := by
    rw [portStep, hport, respond]
  rw [hstep, hps]
  rfl

/-- The step that takes a host event does to block and response what `eventStep` says (R179, R190). -/
theorem step_eq_eventStep (s : State) (e : HostEvent) (rest : List HostEvent) (hs : s.pending = e :: rest) :
    step s = .next { blk := (eventStep s.cfg s.blk e).1, cfg := s.cfg, pending := rest,
                     resp := (eventStep s.cfg s.blk e).2, idx := s.idx + commandCount [e] } := by
  cases e with
  | command c => exact step_eq_portStep s c rest hs
  | reset => simp only [step, hs]; rfl

/-! ## A list of events -/

theorem commandCount_cons (e : HostEvent) (es : List HostEvent) :
    commandCount (e :: es) = commandCount [e] + commandCount es := by
  cases e with
  | command c => exact Nat.add_comm _ _
  | reset => exact (Nat.zero_add _).symm

/-- A run whose first step answers `t` goes on from `t`. -/
theorem run_succ_of_step (n : Nat) (s t : State) (h : step s = .next t) :
    Host.Core.run Sys2Proof.core (n + 1) s = Host.Core.run Sys2Proof.core n t := by
  simp only [Host.Core.run, Sys2Proof.core, h]

/-- Settles O52, by induction on the events: the first one's step is `eventStep`, and the run goes on from the state it leaves. -/
theorem runIsTheFoldOfPortSteps : Obligations.RunIsTheFoldOfPortSteps := by
  intro es rest s hs
  induction es generalizing s with
  | nil =>
    obtain ⟨blk, cfg, pending, resp, idx⟩ := s
    obtain rfl : pending = rest := hs
    rfl
  | cons e es ih =>
    rw [List.length_cons, run_succ_of_step es.length s _ (step_eq_eventStep s e (es ++ rest) hs), ih _ rfl,
      commandCount_cons e es, ← Nat.add_assoc]
    rfl

end Sys2Proof.Machine
end

section
/-! The decoder against the table of R61 (R66 to R70): the first of the four checks that a word fails is what the decoder names, and
an illegal word's step answers ILLEGAL_COMMAND. -/

namespace Sys2Proof.Machine

/-! ## The rows of the opcode map -/

/-- An opcode given as a number has the row of that number. -/
theorem opcodeKinds_of_toNat {op : BitVec 8} {n : Nat} (h : op.toNat = n) : opcodeKinds op = opcodeKinds (BitVec.ofNat 8 n) := by
  rw [← h, BitVec.ofNat_toNat, BitVec.setWidth_eq]

/-- The opcodes that have no row are the four ranges of R69. -/
theorem opcodeKinds_eq_none_iff (op : BitVec 8) :
    opcodeKinds op = none ↔
      (op.toNat ≤ 0x0F ∨ (0x18 ≤ op.toNat ∧ op.toNat ≤ 0x1F) ∨ (0x2C ≤ op.toNat ∧ op.toNat ≤ 0x2F) ∨ 0x3C ≤ op.toNat) := by
  rw [opcodeKinds, Option.map_eq_none_iff, List.find?_eq_none]
  simp only [opcodeMap, primitiveRows, tagRows, headerRows, List.cons_append, List.nil_append, List.forall_mem_cons,
    List.not_mem_nil, beq_iff_eq, BitVec.toNat_eq, BitVec.ofNat_eq_ofNat, BitVec.reduceToNat, false_imp_iff, implies_true,
    and_true]
  omega

/-! ## The operand forms: a field is read exactly when its kind in the table admits it -/

@[simp] theorem widthOfSel_isSome (sel : BitVec 4) : (widthOfSel sel).isSome = SelKind.width.admits sel := by
  revert sel; decide

@[simp] theorem bankOfSel_isSome (sel : BitVec 4) : (bankOfSel sel).isSome = SelKind.bank.admits sel := by
  revert sel; decide

@[simp] theorem unusedSel_isSome (sel : BitVec 4) : (unusedSel sel).isSome = SelKind.unused.admits sel := by
  revert sel; decide

@[simp] theorem unusedData_isSome (data : BitVec 48) : (unusedData data).isSome = DataKind.unused.admits data := by
  simp [unusedData, DataKind.admits, BitVec.toNat_eq, apply_ite]

/-- The bits of a data field from `k` on are 0 exactly when its value is below 2^k: the must-be-zero bits of R68. -/
theorem highBits_eq_zero_iff (data : BitVec 48) (k m : Nat) (hkm : k + m = 48) :
    data.extractLsb' k m = 0#m ↔ data.toNat < 2 ^ k := by
  have hlt : data.toNat / 2 ^ k < 2 ^ m := by
    rw [Nat.div_lt_iff_lt_mul (by positivity), ← Nat.pow_add, Nat.add_comm m k, hkm]
    exact data.isLt
  rw [BitVec.toNat_eq, BitVec.extractLsb'_toNat, Nat.shiftRight_eq_div_pow, BitVec.toNat_ofNat, Nat.zero_mod,
    Nat.mod_eq_of_lt hlt, Nat.div_eq_zero_iff_lt (by positivity)]

@[simp] theorem d16OfData_isSome (data : BitVec 48) : (d16OfData data).isSome = DataKind.d16.admits data := by
  simp only [d16OfData, DataKind.admits, highBits_eq_zero_iff data 16 32 rfl]
  split <;> simp_all

@[simp] theorem d1OfData_isSome (data : BitVec 48) : (d1OfData data).isSome = DataKind.d1.admits data := by
  simp only [d1OfData, DataKind.admits, highBits_eq_zero_iff data 1 47 rfl]
  split <;> simp_all

@[simp] theorem etherTypeOfData_isSome (data : BitVec 48) : (etherTypeOfData data).isSome = DataKind.d1.admits data := by
  rw [etherTypeOfData, Option.isSome_map, d1OfData_isSome]

@[simp] theorem d48OfData_isSome (data : BitVec 48) : (d48OfData data).isSome = DataKind.d48.admits data := rfl

/-! ## The checks in their order -/

/-- The first check of R70, by the table of R61, that a word cut into its fields fails; none for a legal one. -/
def firstFailedCheck (c : RawCommand) : Option IllegalWord :=
  if c.opcodeDefined = false then some .undefinedOpcode
  else if c.rsvZero = false then some .reservedNonzero
  else if c.selLegal = false then some .selectorIllegal
  else if c.dataLegal = false then some .dataNonzero
  else none

/-- The reason the decoder gives for refusing a word; none where it gives a command. -/
def refusalOf : Except IllegalWord Instr → Option IllegalWord
  | .ok _ => none
  | .error e => some e

theorem refusalOf_eq_none_iff (r : Except IllegalWord Instr) : refusalOf r = none ↔ ∃ i, r = .ok i := by
  cases r <;> simp [refusalOf]

theorem refusalOf_eq_some_iff (r : Except IllegalWord Instr) (e : IllegalWord) : refusalOf r = some e ↔ r = .error e := by
  cases r <;> simp [refusalOf]

/-- A legal word is one that fails no check. -/
theorem firstFailedCheck_eq_none_iff (c : RawCommand) : firstFailedCheck c = none ↔ c.wellFormed = true := by
  unfold firstFailedCheck RawCommand.wellFormed
  split_ifs <;> simp_all

/-- For a row of the map whose two kinds the operand forms follow, reading the operands makes checks 2, 3 and 4 in order. -/
theorem refusalOf_readOperands {α β : Type} (w : Word) (sel : BitVec 4 → Option α) (data : BitVec 48 → Option β)
    (mk : α → β → Instr) (ks : SelKind) (kd : DataKind) (hrow : opcodeKinds (opOf w) = some (ks, kd))
    (hsel : (sel (selOf w)).isSome = ks.admits (selOf w)) (hdata : (data (dataOf w)).isSome = kd.admits (dataOf w)) :
    refusalOf (readOperands w sel data mk) = firstFailedCheck (rawOf w) := by
  have hrsv : rsvOf w = 0#4 ↔ (rsvOf w).toNat = 0 := BitVec.toNat_eq
  simp only [firstFailedCheck, RawCommand.opcodeDefined, RawCommand.rsvZero, RawCommand.selLegal, RawCommand.dataLegal, rawOf,
    hrow, ← hsel, ← hdata, readOperands, hrsv]
  by_cases h : (rsvOf w).toNat = 0
  · cases sel (selOf w) with
    | none => simp [h, refusalOf]
    | some a => cases data (dataOf w) <;> simp [h, refusalOf]
  · simp [h, refusalOf]

/-- The decoder refuses a word for the first check it fails, and gives a command where it fails none (R70). -/
theorem refusalOf_decode (w : Word) : refusalOf (decode w) = firstFailedCheck (rawOf w) := by
  unfold decode
  split
  case h_33 =>
    have hnone : opcodeKinds (opOf w) = none := by
      simp only [imp_false] at *
      rw [opcodeKinds_eq_none_iff]
      omega
    simp [firstFailedCheck, RawCommand.opcodeDefined, rawOf, hnone, refusalOf]
  all_goals
    rename_i hop
    exact refusalOf_readOperands w _ _ _ _ _ (opcodeKinds_of_toNat hop) (by simp) (by simp)

theorem decode_eq_error_iff (w : Word) (e : IllegalWord) : decode w = .error e ↔ firstFailedCheck (rawOf w) = some e := by
  rw [← refusalOf_decode, refusalOf_eq_some_iff]

theorem decode_ok_iff_wellFormed (w : Word) : (∃ i, decode w = .ok i) ↔ (rawOf w).wellFormed = true := by
  rw [← refusalOf_eq_none_iff, refusalOf_decode, firstFailedCheck_eq_none_iff]

/-- Settles O39: each answer of the decoder is the first failed check of `firstFailedCheck`, read off its chain of tests. -/
theorem decodeChecksInOrder : Obligations.DecodeChecksInOrder := by
  intro w
  refine ⟨decode_ok_iff_wellFormed w, ?opcode, ?rsv, ?sel, ?data⟩
  case opcode | rsv | sel | data =>
    rw [decode_eq_error_iff, firstFailedCheck]
    split_ifs <;> simp_all

/-! ## Illegal words at the step -/

/-- Check 2 as the bits 51:48 of the word (R60, R66). -/
theorem rsvZero_rawOf_eq_false_iff (w : Word) : (rawOf w).rsvZero = false ↔ w.toNat / 2 ^ 48 % 2 ^ 4 ≠ 0 := by
  rw [RawCommand.rsvZero, decide_eq_false_iff_not, rawOf, rsvOf, BitVec.extractLsb'_toNat, Nat.shiftRight_eq_div_pow]

/-- Each of the four causes of R66 to R69 makes a word ill-formed. -/
theorem not_wellFormed_of_cause (w : Word)
    (h : opcodeKinds (opOf w) = none ∨ w.toNat / 2 ^ 48 % 2 ^ 4 ≠ 0 ∨
      ∃ ks kd, opcodeKinds (opOf w) = some (ks, kd) ∧ (ks.admits (selOf w) = false ∨ kd.admits (dataOf w) = false)) :
    ¬ (rawOf w).wellFormed = true := by
  rw [RawCommand.wellFormed]
  rcases h with hop | hrsv | ⟨ks, kd, hrow, hsel | hdata⟩
  · have : (rawOf w).opcodeDefined = false := by simp [RawCommand.opcodeDefined, rawOf, hop]
    simp [this]
  · simp [(rsvZero_rawOf_eq_false_iff w).mpr hrsv]
  · have : (rawOf w).selLegal = false := by simp [RawCommand.selLegal, rawOf, hrow, hsel]
    simp [this]
  · have : (rawOf w).dataLegal = false := by simp [RawCommand.dataLegal, rawOf, hrow, hdata]
    simp [this]

/-- The step on a word that fails a check answers ILLEGAL_COMMAND and nothing more (R70, R172). -/
theorem step_of_not_wellFormed (s : State) (w : Word) (rest : List HostEvent) (hs : s.pending = .command w :: rest)
    (hw : ¬ (rawOf w).wellFormed = true) : step s = illegalCommand (issue s rest) := by
  cases hd : decode w with
  | ok i => exact absurd ((decode_ok_iff_wellFormed w).mp ⟨i, hd⟩) hw
  | error e => simp only [step, hs, hd]

/-- The ILLEGAL_COMMAND response has status code 4 and read data 0 (R65). -/
theorem responds_illegalCommand (s t : State) (h : illegalCommand s = .next t) : responds t 4 0 := by
  obtain rfl := (raise_eq_next_iff s t .illegalCommand).mp h
  exact ⟨_, rfl, respWord_toNat .illegalCommand 0⟩

/-- Settles O40: each cause makes the word ill-formed, so the decoder gives no command and the step answers by `illegalCommand`. -/
theorem illegalWordsAnswerIllegalCommand : Obligations.IllegalWordsAnswerIllegalCommand := by
  refine ⟨opcodeKinds_eq_none_iff, fun s w rest hs hcause => ?_⟩
  have hstep := step_of_not_wellFormed s w rest hs (not_wellFormed_of_cause w hcause)
  exact ⟨_, hstep, responds_illegalCommand (issue s rest) _ rfl, rfl, rfl, rfl, rfl⟩

end Sys2Proof.Machine
end

section
/-! What one command does, in the terms of the per-command statements: its word from the encoder's row, its response as
numbers, and its frame from the write it makes. -/

namespace Sys2Proof.Machine

/-! ## Words -/

/-- A command's word as numbers, from its row of the encoder and the value of each field (R60, R61). -/
theorem encodesTo_of_encode_eq {i : Instr} {op : BitVec 8} {sel : BitVec 4} {data : BitVec 48} {opN selN dataN : Nat}
    (h : encode i = packWord op sel data) (hop : op.toNat = opN) (hsel : sel.toNat = selN) (hdata : data.toNat = dataN) :
    encodesTo i opN selN dataN := by
  rw [encodesTo, h, packWord_toNat, hop, hsel, hdata]

/-! ## Responses and frames -/

/-- A response word at the port shows its status code and its read data (R64, R65). -/
theorem responds_of_resp_eq {t : State} {st : Status} {rd : RData} {code rdata : Nat} (h : t.resp = some (respWord st rd))
    (hst : (statusCode st).toNat = code) (hrd : rd.toNat = rdata) : responds t code rdata :=
  ⟨_, h, by rw [respWord_toNat, hst, hrd]⟩

/-- A command that ends with the block it found changes nothing but the response (R54, R172). -/
theorem exec_outcome_of_respond_blk {i : Instr} {s : State} {st : Status} {rd : RData} {code rdata : Nat}
    (h : exec i s = respond s s.blk st rd) (hst : (statusCode st).toNat = code) (hrd : rd.toNat = rdata) :
    ∃ t, exec i s = .next t ∧ responds t code rdata ∧ blockKept s t :=
  ⟨_, h, responds_of_resp_eq rfl hst hrd, ⟨rfl, rfl, rfl⟩, rfl⟩

/-- A write to U[w] and a response change nothing else (R110). -/
theorem keptButPrim_writePrim (s : State) (w : Width) (v : Half) (r : Option Word) :
    keptButPrim w s { s with blk := writePrim s.blk w v, resp := r } :=
  ⟨⟨rfl, rfl, rfl⟩, fun w' hne => readPrim_writePrim_of_ne s.blk w w' v hne,
    writePrim_tag .., writePrim_h0 .., writePrim_h1 ..⟩

/-- A command that stores a value in range in U[w] leaves it there whole, and changes nothing else (R101, R110). -/
theorem exec_outcome_of_respond_writePrim {i : Instr} {s : State} {w : Width} {v : Half} {st : Status} {rd : RData}
    {code rdata : Nat} (h : exec i s = respond s (writePrim s.blk w v) st rd) (hv : inRange w v = true)
    (hst : (statusCode st).toNat = code) (hrd : rd.toNat = rdata) :
    ∃ t, exec i s = .next t ∧ readPrim t.blk w = v ∧ responds t code rdata ∧ keptButPrim w s t :=
  ⟨_, h, readPrim_writePrim_of_inRange s.blk w v hv, responds_of_resp_eq rfl hst hrd, keptButPrim_writePrim s w v _⟩

end Sys2Proof.Machine
end

section
/-! The primitive commands (R100 to R107). -/

namespace Sys2Proof.Machine

/-! ## Read data as numbers -/

/-- MAX_VALUE of every width fits the read data (R106). -/
theorem ofNat_maxValue_toNat (w : Width) : (BitVec.ofNat 48 (maxValue w)).toNat = 2 ^ widthBits w - 1 := by
  cases w <;> rfl

/-- BITS of every width fits the read data (R107). -/
theorem ofNat_widthBits_toNat (w : Width) : (BitVec.ofNat 48 (widthBits w)).toNat = widthBits w := by cases w <;> rfl

/-- The bounds check fails exactly above MAX_VALUE (R101, R104). -/
theorem not_inRange_iff (w : Width) (v : Half) : ¬ inRange w v = true ↔ 2 ^ widthBits w - 1 < v.toNat := by
  rw [inRange_eq_true_iff, Nat.not_le]

/-! ## Commands that store -/

/-- Settles O2: the store of zero, which is in range at every width. -/
theorem pDefaultStoresZero : Obligations.PDefaultStoresZero := by
  intro w s
  obtain ⟨t, hexec, hread, hresp, hkept⟩ :=
    exec_outcome_of_respond_writePrim (i := .pDefault w) (s := s) rfl (inRange_zero w) rfl rfl
  exact ⟨encodesTo_of_encode_eq rfl rfl rfl rfl, t, hexec, congrArg BitVec.toNat hread, hresp, hkept⟩

/-- Settles O3: the two outcomes of the bounds check, the store with v as read data and the refusal. -/
theorem pTryFromStoresAndReturnsInRange : Obligations.PTryFromStoresAndReturnsInRange := by
  intro w v s
  refine ⟨encodesTo_of_encode_eq rfl rfl rfl (dataOfD16_toNat v), fun hle => ?store, fun hlt => ?refuse⟩
  case store =>
    have hin : inRange w v = true := (inRange_eq_true_iff w v).mpr hle
    exact exec_outcome_of_respond_writePrim (exec_pTryFrom_of_inRange s w v hin) hin rfl
      (BitVec.toNat_setWidth_of_le (by decide))
  case refuse =>
    exact exec_outcome_of_respond_blk (exec_pTryFrom_of_not_inRange s w v ((not_inRange_iff w v).mpr hlt)) rfl rfl

/-- Settles O4: the two outcomes of the bounds check, as for P_TRYFROM but with read data 0 on success. -/
theorem pSetStoresInRange : Obligations.PSetStoresInRange := by
  intro w v s
  refine ⟨encodesTo_of_encode_eq rfl rfl rfl (dataOfD16_toNat v), fun hle => ?store, fun hlt => ?refuse⟩
  case store =>
    have hin : inRange w v = true := (inRange_eq_true_iff w v).mpr hle
    exact exec_outcome_of_respond_writePrim (exec_pSet_of_inRange s w v hin) hin rfl rfl
  case refuse =>
    exact exec_outcome_of_respond_blk (exec_pSet_of_not_inRange s w v ((not_inRange_iff w v).mpr hlt)) rfl rfl

/-! ## Commands that read -/

/-- Settles O5: a read of the register, whose bound is the range invariant at w. -/
theorem pValueReturnsTheRegister : Obligations.PValueReturnsTheRegister := by
  intro w s
  refine ⟨encodesTo_of_encode_eq rfl rfl rfl rfl, ?read, fun hrange => hrange w⟩
  case read => exact exec_outcome_of_respond_blk rfl rfl (BitVec.toNat_setWidth_of_le (by decide))

/-- Settles O6: the response is the bounds check of the register, which both clauses and the range invariant decide. -/
theorem pIsValidComparesWithMax : Obligations.PIsValidComparesWithMax := by
  intro w s
  obtain ⟨t, hexec, hresp, hkept⟩ := exec_outcome_of_respond_blk (i := .pIsValid w) (s := s) rfl rfl (boolData_toNat _)
  have hvalid (hle : (readPrim s.blk w).toNat ≤ 2 ^ widthBits w - 1) : responds t 0 1 := by
    rwa [(inRange_eq_true_iff w _).mpr hle] at hresp
  have hinvalid (hlt : 2 ^ widthBits w - 1 < (readPrim s.blk w).toNat) : responds t 0 0 := by
    rwa [Bool.eq_false_iff.mpr ((not_inRange_iff w _).mpr hlt)] at hresp
  exact ⟨encodesTo_of_encode_eq rfl rfl rfl rfl, t, hexec, hkept, hvalid, hinvalid, fun hrange => hvalid (hrange w)⟩

/-- Settles O7: three reads of constants, each of which fits the read data. -/
theorem pConstantsAreReturned : Obligations.PConstantsAreReturned := by
  intro w s
  refine ⟨?wordMin, ?wordMax, ?wordBits, ?min, ?max, ?bits⟩
  case wordMin | wordMax | wordBits => exact encodesTo_of_encode_eq rfl rfl rfl rfl
  case min => exact exec_outcome_of_respond_blk rfl rfl (congrArg (fun n => (BitVec.ofNat 48 n).toNat) (minValue_eq_zero w))
  case max => exact exec_outcome_of_respond_blk rfl rfl (ofNat_maxValue_toNat w)
  case bits => exact exec_outcome_of_respond_blk rfl rfl (ofNat_widthBits_toNat w)

end Sys2Proof.Machine
end

section
/-! The tag codec commands (R120 to R131): each writes TAG, one of its fields, or nothing. -/

namespace Sys2Proof.Machine

/-! ## The TCI as a number -/

/-- A TCI is the sum of its three sub-fields, each at its place (R24). -/
theorem tci_toNat (t : Half) : t.toNat = (pcpOf t).toNat * 2 ^ 13 + (deiOf t).toNat * 2 ^ 12 + (vidOf t).toNat := by
  rw [pcpOf_toNat, deiOf_toNat, vidOf_toNat]
  omega

/-- The value of a TCI whose PCP is replaced by a value that fits it (R127). -/
theorem withPcp_toNat (t v : Half) (hv : v.toNat ≤ pcpMax) : (withPcp t v).toNat = v.toNat * 2 ^ 13 + t.toNat % 2 ^ 13 := by
  have hfits : v.toNat ≤ 7 := hv
  rw [tci_toNat (withPcp t v), pcpOf_withPcp, deiOf_withPcp, vidOf_withPcp, BitVec.extractLsb'_toNat, Nat.shiftRight_zero,
    deiOf_toNat, vidOf_toNat]
  omega

/-- The value of a TCI whose DEI is replaced (R129). -/
theorem withDei_toNat (t : Half) (b : Bool) :
    (withDei t b).toNat = t.toNat / 2 ^ 13 * 2 ^ 13 + b.toNat * 2 ^ 12 + t.toNat % 2 ^ 12 := by
  rw [tci_toNat (withDei t b), pcpOf_withDei, deiOf_withDei, vidOf_withDei, pcpOf_toNat, BitVec.toNat_ofBool, vidOf_toNat]
  rfl

/-- In both modes a VID write leaves the four bits above the VID alone (R131). -/
theorem withVid_toNat_div (m : VidSetMode) (t v : Half) : (withVid m t v).toNat / 2 ^ 12 = t.toNat / 2 ^ 12 := by
  have hpcp := congrArg BitVec.toNat (pcpOf_withVid m t v)
  have hdei := congrArg BitVec.toNat (deiOf_withVid m t v)
  rw [pcpOf_toNat, pcpOf_toNat] at hpcp
  rw [deiOf_toNat, deiOf_toNat] at hdei
  omega

/-- A value that fits the VID is its own low 12 bits (R131). -/
theorem extractLsb'_vid_toNat (v : Half) (hv : v.toNat ≤ vidMax) : (v.extractLsb' 0 12).toNat = v.toNat := by
  have hfits : v.toNat ≤ 0xFFF := hv
  rw [BitVec.extractLsb'_toNat, Nat.shiftRight_zero]
  omega

/-- The VID after a write in CLEAR mode is the value written (R131). -/
theorem withVid_clear_toNat_mod (t v : Half) (hv : v.toNat ≤ vidMax) : (withVid .clear t v).toNat % 2 ^ 12 = v.toNat := by
  calc (withVid .clear t v).toNat % 2 ^ 12
      = (vidOf (withVid .clear t v)).toNat := (vidOf_toNat _).symm
    _ = v.toNat := by rw [vidOf_withVid_clear, extractLsb'_vid_toNat v hv]

/-- The VID after a write in OR mode is the old VID ORed with the value written (R131). -/
theorem withVid_additiveOr_toNat_mod (t v : Half) (hv : v.toNat ≤ vidMax) :
    (withVid .additiveOr t v).toNat % 2 ^ 12 = (t.toNat % 2 ^ 12 ||| v.toNat) := by
  calc (withVid .additiveOr t v).toNat % 2 ^ 12
      = (vidOf (withVid .additiveOr t v)).toNat := (vidOf_toNat _).symm
    _ = ((vidOf t).toNat ||| v.toNat) := by
      rw [vidOf_withVid_additiveOr, BitVec.toNat_or, extractLsb'_vid_toNat v hv]
    _ = (t.toNat % 2 ^ 12 ||| v.toNat) := by rw [vidOf_toNat]; rfl

/-! ## Writes to TAG and their frame -/

theorem writeTpid_eq_writeTag (b : Block) (v : Half) : writeTpid b v = writeTag b { tpid := v, tci := b.tag.tci } := rfl

theorem writeTci_eq_writeTag (b : Block) (v : Half) : writeTci b v = writeTag b { tpid := b.tag.tpid, tci := v } := rfl

/-- A write to TAG and a response change nothing else (R30). -/
theorem keptButTag_writeTag (s : State) (g : Tag) (r : Option Word) :
    keptButTag s { s with blk := writeTag s.blk g, resp := r } :=
  ⟨⟨rfl, rfl, rfl⟩, ⟨writeTag_u1 .., writeTag_u2 .., writeTag_u3 .., writeTag_u4 .., writeTag_u12 ..⟩,
    writeTag_h0 .., writeTag_h1 ..⟩

/-- A command that stores `g` in TAG and answers (OK, 0) leaves it there, and changes nothing else. -/
theorem exec_outcome_of_respond_writeTag {i : Instr} {s : State} {g : Tag}
    (h : exec i s = respond s (writeTag s.blk g) .ok 0) :
    ∃ t, exec i s = .next t ∧ t.blk.tag = g ∧ responds t 0 0 ∧ keptButTag s t :=
  ⟨_, h, writeTag_tag .., responds_of_resp_eq rfl rfl rfl, keptButTag_writeTag s g _⟩

/-- A command that stores `v` in TAG.tci and answers (OK, 0) leaves it there, and changes nothing else, the TPID neither. -/
theorem exec_outcome_of_respond_writeTci {i : Instr} {s : State} {v : Half}
    (h : exec i s = respond s (writeTci s.blk v) .ok 0) :
    ∃ t, exec i s = .next t ∧ t.blk.tag.tci = v ∧ t.blk.tag.tpid = s.blk.tag.tpid ∧
      responds t 0 0 ∧ keptButTag s t := by
  rw [writeTci_eq_writeTag] at h
  obtain ⟨t, hexec, htag, hresp, hkept⟩ := exec_outcome_of_respond_writeTag h
  exact ⟨t, hexec, by rw [htag], by rw [htag], hresp, hkept⟩

/-! ## Commands that store a tag or a field of it unchecked -/

/-- Settles O11: a store of the standard TPID and TCI_DEFAULT. -/
theorem tagDefaultLoadsDefaults : Obligations.TagDefaultLoadsDefaults := by
  intro s
  obtain ⟨t, hexec, htag, hresp, hkept⟩ := exec_outcome_of_respond_writeTag (i := .tagDefault) (s := s) rfl
  exact ⟨encodesTo_of_encode_eq rfl rfl rfl rfl, t, hexec, by rw [htag]; rfl, by rw [htag], hresp, hkept⟩

/-- Settles O12: a store of the standard TPID and the operand. -/
theorem tagNewLoadsRawTci : Obligations.TagNewLoadsRawTci := by
  intro v s
  obtain ⟨t, hexec, htag, hresp, hkept⟩ := exec_outcome_of_respond_writeTag (i := .tagNew v) (s := s) rfl
  exact ⟨encodesTo_of_encode_eq rfl rfl rfl (dataOfD16_toNat v), t, hexec, by rw [htag]; rfl, by rw [htag],
    hresp, hkept⟩

/-- Settles O13: a store of TAG with the TPID replaced. -/
theorem tagWrTpidWritesTpidOnly : Obligations.TagWrTpidWritesTpidOnly := by
  intro v s
  obtain ⟨t, hexec, htag, hresp, hkept⟩ :=
    exec_outcome_of_respond_writeTag (i := .tagWrTpid v) (s := s) (congrArg (respond s · .ok 0) (writeTpid_eq_writeTag s.blk v))
  exact ⟨encodesTo_of_encode_eq rfl rfl rfl (dataOfD16_toNat v), t, hexec, by rw [htag], by rw [htag], hresp, hkept⟩

/-- Settles O17: a store of the TCI with bit 12 replaced. -/
theorem tagSetDeiWritesDeiOnly : Obligations.TagSetDeiWritesDeiOnly := by
  intro b s
  obtain ⟨t, hexec, htci, hkept⟩ := exec_outcome_of_respond_writeTci (i := .tagSetDei b) (s := s) rfl
  exact ⟨encodesTo_of_encode_eq rfl rfl rfl (dataOfD1_toNat b), t, hexec, by rw [htci, withDei_toNat], hkept⟩

/-! ## Commands that read -/

/-- The tag check by the value of the TPID alone (R125). -/
theorem tagValid_eq_decide_toNat (g : Tag) : tagValid g = decide (g.tpid.toNat = 0x8100) :=
  decide_eq_decide.mpr BitVec.toNat_inj.symm

/-- Settles O14: two raw reads, and the tag check, which the value of the TPID decides. -/
theorem tagRawReadsAndValidity : Obligations.TagRawReadsAndValidity := by
  intro s
  refine ⟨?wordTpid, ?wordTci, ?wordValid, ?tpid, ?tci, ?valid⟩
  case wordTpid | wordTci | wordValid => exact encodesTo_of_encode_eq rfl rfl rfl rfl
  case tpid | tci => exact exec_outcome_of_respond_blk rfl rfl (BitVec.toNat_setWidth_of_le (by decide))
  case valid =>
    obtain ⟨t, hexec, hresp, hkept⟩ := exec_outcome_of_respond_blk (i := .tagIsValid) (s := s) rfl rfl (boolData_toNat _)
    rw [tagValid_eq_decide_toNat] at hresp
    refine ⟨t, hexec, hkept, fun hstd => ?_, fun hother => ?_⟩
    · rwa [decide_eq_true hstd] at hresp
    · rwa [decide_eq_false hother] at hresp

/-- Settles O15: the three extractors as quotients and remainders, each of which fits the read data. -/
theorem tagFieldReads : Obligations.TagFieldReads := by
  intro s
  refine ⟨?wordPcp, ?wordDei, ?wordVid, ?pcp, ?dei, ?vid⟩
  case wordPcp | wordDei | wordVid => exact encodesTo_of_encode_eq rfl rfl rfl rfl
  case pcp => exact exec_outcome_of_respond_blk rfl rfl ((BitVec.toNat_setWidth_of_le (by decide)).trans (pcpOf_toNat _))
  case dei => exact exec_outcome_of_respond_blk rfl rfl ((BitVec.toNat_setWidth_of_le (by decide)).trans (deiOf_toNat _))
  case vid => exact exec_outcome_of_respond_blk rfl rfl ((BitVec.toNat_setWidth_of_le (by decide)).trans (vidOf_toNat _))

/-! ## Commands that store a sub-field within its range -/

/-- Settles O16: the two outcomes of the bounds check, the store of the TCI with PCP replaced and the refusal. -/
theorem tagSetPcpWritesPcpOnly : Obligations.TagSetPcpWritesPcpOnly := by
  intro v s
  refine ⟨encodesTo_of_encode_eq rfl rfl rfl (dataOfD16_toNat v), fun hle => ?store, fun hlt => ?refuse⟩
  case store =>
    obtain ⟨t, hexec, htci, hkept⟩ := exec_outcome_of_respond_writeTci (exec_tagSetPcp_of_le s v hle)
    exact ⟨t, hexec, by rw [htci, withPcp_toNat _ v hle], hkept⟩
  case refuse => exact exec_outcome_of_respond_blk (exec_tagSetPcp_of_not_le s v (Nat.not_le.mpr hlt)) rfl rfl

/-- Settles O18: the two outcomes of the bounds check, the store by the configured write path and, in both modes, the refusal. -/
theorem tagSetVidInBothModes : Obligations.TagSetVidInBothModes := by
  intro v s
  refine ⟨encodesTo_of_encode_eq rfl rfl rfl (dataOfD16_toNat v), fun hle hmode => ?clear, fun hle hmode => ?additiveOr,
    fun hlt => ?refuse⟩
  case clear =>
    obtain ⟨t, hexec, htci, hkept⟩ := exec_outcome_of_respond_writeTci (exec_tagSetVid_of_le s v hle)
    rw [hmode] at htci
    refine ⟨t, hexec, ?_, hkept⟩
    rw [htci, ← withVid_toNat_div .clear s.blk.tag.tci v, ← withVid_clear_toNat_mod s.blk.tag.tci v hle, Nat.div_add_mod']
  case additiveOr =>
    obtain ⟨t, hexec, htci, hkept⟩ := exec_outcome_of_respond_writeTci (exec_tagSetVid_of_le s v hle)
    rw [hmode] at htci
    refine ⟨t, hexec, ?_, ?_, hkept⟩
    · rw [htci, withVid_toNat_div]
    · rw [htci, withVid_additiveOr_toNat_mod _ v hle]
  case refuse => exact exec_outcome_of_respond_blk (exec_tagSetVid_of_not_le s v (Nat.not_le.mpr hlt)) rfl rfl

end Sys2Proof.Machine
end

section
/-! Lists of commands: the decoder reads a command's word back (R70), so a run of issued commands is a fold of the commands' own
meanings on the block (R56, R74). -/

namespace Sys2Proof.Machine

/-! ## The word of a command at the port -/

/-- A packed word whose operand fields read gives the command with these operands (R70). -/
theorem readOperands_packWord {α β : Type} {op : BitVec 8} {selBits : BitVec 4} {dataBits : BitVec 48}
    {sel : BitVec 4 → Option α} {data : BitVec 48 → Option β} {mk : α → β → Instr} {a : α} {b : β}
    (ha : sel selBits = some a) (hb : data dataBits = some b) :
    readOperands (packWord op selBits dataBits) sel data mk = .ok (mk a b) :=
  (readOperands_eq_ok ..).mpr ⟨rsvOf_packWord .., a, b, by rwa [selOf_packWord], by rwa [dataOf_packWord], rfl⟩

/-- The decoder reads a command's word back as the command: its opcode picks the row, and each operand form reads what the
encoder put in its field (R61, R70). -/
theorem decode_encode (i : Instr) : decode (encode i) = .ok i := by
  cases i <;> rw [encode, decode, opOf_packWord]
  case pDefault w | pValue w | pIsValid w | pMin w | pMax w | pBits w =>
    exact readOperands_packWord (widthOfSel_sel w) rfl
  case pTryFrom w v | pSet w v => exact readOperands_packWord (widthOfSel_sel w) (d16OfData_dataOfD16 v)
  case tagDefault | tagRdTpid | tagRdTci | tagIsValid | tagGetPcp | tagGetDei | tagGetVid | hdrEq =>
    exact readOperands_packWord rfl rfl
  case tagNew v | tagWrTpid v | tagSetPcp v | tagSetVid v => exact readOperands_packWord rfl (d16OfData_dataOfD16 v)
  case tagSetDei b => exact readOperands_packWord rfl (d1OfData_dataOfD1 b)
  case hdrDefault h | hdrRdSrc h | hdrRdDst h | hdrSetTag h | hdrClrTag h | hdrGetTag h | hdrRdEtype h =>
    exact readOperands_packWord (bankOfSel_sel h) rfl
  case hdrWrSrc h m | hdrWrDst h m => exact readOperands_packWord (bankOfSel_sel h) rfl
  case hdrSetEtype h e => exact readOperands_packWord (bankOfSel_sel h) (etherTypeOfData_bit e)
  case etTryFrom h r => exact readOperands_packWord (bankOfSel_sel h) (d16OfData_dataOfD16 r)

/-- The state in which the port's command meets its meaning: the word is gone and the index has moved on (R179). -/
def portState (cfg : Params) (b : Block) : State := { blk := b, cfg := cfg, pending := [], resp := none, idx := 1 }

@[simp] theorem portState_blk (cfg : Params) (b : Block) : (portState cfg b).blk = b := rfl

/-- The port's step on a command's word is the command. -/
theorem portStep_encode {cfg : Params} {b c : Block} {i : Instr} {st : Status} {rd : RData}
    (h : exec i (portState cfg b) = respond (portState cfg b) c st rd) :
    portStep cfg b (encode i) = (c, some (respWord st rd)) := by
  have hstep : step { blk := b, cfg := cfg, pending := [.command (encode i)], resp := none, idx := 0 }
      = exec i (portState cfg b) := by
    simp only [step, decode_encode]; rfl
  rw [portStep, hstep, h]
  rfl

/-! ## The block after a list of commands -/

/-- What the commands, in order, make of the block. -/
def blockAfter (cfg : Params) (b : Block) (is : List Instr) : Block :=
  is.foldl (fun b i => (portStep cfg b (encode i)).1) b

@[simp] theorem blockAfter_nil (cfg : Params) (b : Block) : blockAfter cfg b [] = b := rfl

theorem blockAfter_append (cfg : Params) (b : Block) (is js : List Instr) :
    blockAfter cfg b (is ++ js) = blockAfter cfg (blockAfter cfg b is) js :=
  List.foldl_append

/-- The block after a list of commands, from what the first of them does. -/
theorem blockAfter_cons {cfg : Params} {b c : Block} {i : Instr} {st : Status} {rd : RData} (is : List Instr)
    (h : exec i (portState cfg b) = respond (portState cfg b) c st rd) :
    blockAfter cfg b (i :: is) = blockAfter cfg c is :=
  congrArg (fun p : Block × Option Word => blockAfter cfg p.1 is) (portStep_encode h)

/-- The fold of port steps over command events, on the block alone. -/
theorem eventsStep_commands (cfg : Params) (b : Block) (r : Option Word) (is : List Instr) :
    (eventsStep cfg b r (is.map fun i => .command (encode i))).1 = blockAfter cfg b is := by
  induction is generalizing b r with
  | nil => rfl
  | cons i is ih => exact ih ..

/-- A run of the commands the host issues leaves the block `blockAfter` says (R56, R74). -/
theorem runCommands_blockAfter (is : List Instr) (s : State) :
    ∃ t, runCommands is s = .next t ∧ t.blk = blockAfter s.cfg s.blk is := by
  have hrun := runIsTheFoldOfPortSteps (is.map fun i => .command (encode i)) s.pending (issuing is s) rfl
  rw [List.length_map] at hrun
  exact ⟨_, hrun, eventsStep_commands ..⟩

end Sys2Proof.Machine
end

section
/-! Every in-range content of the block can be written (R161, R121, R122). The host loads the parts one after another: each bank
by a pseudo-instruction, then TAG, which the banks' tags went through, then the five primitive registers. -/

namespace Sys2Proof.Machine

/-! ## Loading TAG and a bank -/

/-- TAG_LOAD stores both halves of the tag (R73). -/
theorem blockAfter_tagLoad (cfg : Params) (b : Block) (g : Tag) :
    blockAfter cfg b (expandPseudo (.tagLoad g.tpid g.tci)) = writeTag b g :=
  (blockAfter_cons _ rfl).trans (blockAfter_cons _ rfl)

/-! What a write to one field makes of a bank that was written whole (R151, R152, R155, R158). -/

theorem writeSrc_writeHdr (b : Block) (h : Bank) (hd : Header) (m : Mac) :
    writeSrc (writeHdr b h hd) h m = writeHdr b h { hd with src := m } := by cases h <;> rfl

theorem writeDst_writeHdr (b : Block) (h : Bank) (hd : Header) (m : Mac) :
    writeDst (writeHdr b h hd) h m = writeHdr b h { hd with dst := m } := by cases h <;> rfl

theorem writeSlot_writeHdr (b : Block) (h : Bank) (hd : Header) (t : Option Tag) :
    writeSlot (writeHdr b h hd) h t = writeHdr b h { hd with tag := t } := by cases h <;> rfl

theorem writeEtype_writeHdr (b : Block) (h : Bank) (hd : Header) (e : EtherType) :
    writeEtype (writeHdr b h hd) h e = writeHdr b h { hd with etype := e } := by cases h <;> rfl

/-- HDR_NEW writes the bank whole, without a tag: after HDR_DEFAULT, a write to each of the other fields (R73). -/
theorem blockAfter_expandHdrNew (cfg : Params) (b : Block) (h : Bank) (src dst : Mac) (e : EtherType) :
    blockAfter cfg b (expandHdrNew h src dst e) = writeHdr b h { src := src, dst := dst, tag := none, etype := e } := by
  rw [expandHdrNew, blockAfter_cons _ rfl, blockAfter_cons _ rfl, blockAfter_cons _ rfl, blockAfter_cons _ rfl, blockAfter_nil]
  simp only [portState_blk, writeSrc_writeHdr, writeDst_writeHdr, writeEtype_writeHdr]

/-- HDR_NEW_TAGGED writes the bank whole, with a copy of TAG (R73). -/
theorem blockAfter_hdrNewTagged (cfg : Params) (b : Block) (h : Bank) (src dst : Mac) (e : EtherType) :
    blockAfter cfg b (expandPseudo (.hdrNewTagged h src dst e))
      = writeHdr b h { src := src, dst := dst, tag := some b.tag, etype := e } := by
  rw [expandPseudo, blockAfter_append, blockAfter_expandHdrNew, blockAfter_cons _ rfl, blockAfter_nil, portState_blk,
    writeSlot_writeHdr, writeHdr_tag]

/-- The commands that give bank h the content hd: HDR_NEW for an untagged one; for a tagged one its tag goes through TAG. -/
def loadHdr (h : Bank) (hd : Header) : List Instr :=
  match hd.tag with
  | none => expandPseudo (.hdrNew h hd.src hd.dst hd.etype)
  | some g => expandPseudo (.tagLoad g.tpid g.tci) ++ expandPseudo (.hdrNewTagged h hd.src hd.dst hd.etype)

/-- `loadHdr` writes the bank, and beside it at most TAG. -/
theorem blockAfter_loadHdr (cfg : Params) (b : Block) (h : Bank) (hd : Header) :
    ∃ g, blockAfter cfg b (loadHdr h hd) = writeHdr (writeTag b g) h hd := by
  obtain ⟨src, dst, _ | g, e⟩ := hd
  · exact ⟨b.tag, blockAfter_expandHdrNew ..⟩
  · refine ⟨g, ?_⟩
    rw [loadHdr, blockAfter_append, blockAfter_tagLoad, blockAfter_hdrNewTagged, writeTag_tag]

/-! ## Loading the primitive registers -/

/-- The commands that give the registers of the widths ws their values in c. -/
def loadPrims (ws : List Width) (c : Block) : List Instr := ws.map fun w => .pSet w (readPrim c w)

/-- P_SET stores every value of a block whose registers are in range (R21, R102). -/
theorem blockAfter_loadPrims (cfg : Params) (ws : List Width) (b c : Block) (hc : primsInRange c) :
    blockAfter cfg b (loadPrims ws c) = ws.foldl (fun b w => writePrim b w (readPrim c w)) b := by
  induction ws generalizing b with
  | nil => rfl
  | cons w ws ih =>
    have hin : inRange w (readPrim c w) = true := (inRange_eq_true_iff w _).mpr (hc w)
    calc blockAfter cfg b (loadPrims (w :: ws) c)
        = blockAfter cfg (writePrim b w (readPrim c w)) (loadPrims ws c) :=
          blockAfter_cons _ (exec_pSet_of_inRange (portState cfg b) w _ hin)
      _ = (w :: ws).foldl (fun b w => writePrim b w (readPrim c w)) b := ih _

/-! ## Loading the block -/

/-- The five widths. -/
def allWidths : List Width := [.u1, .u2, .u3, .u4, .u12]

/-- The commands that give the block the content c. -/
def loadBlock (c : Block) : List Instr :=
  loadHdr .h0 c.h0 ++ loadHdr .h1 c.h1 ++ expandPseudo (.tagLoad c.tag.tpid c.tag.tci) ++ loadPrims allWidths c

/-- Writing both banks, TAG and the five primitive registers leaves nothing of the block they are written to (R37). A register
read zero-extended goes back whole, be it in range or not. -/
theorem writeAll_eq (b c : Block) (g g' : Tag) :
    allWidths.foldl (fun b w => writePrim b w (readPrim c w))
      (writeTag (writeHdr (writeTag (writeHdr (writeTag b g) .h0 c.h0) g') .h1 c.h1) c.tag) = c := by
  simp [allWidths, writePrim, readPrim, writeTag, writeHdr]

theorem blockAfter_loadBlock (cfg : Params) (b c : Block) (hc : primsInRange c) : blockAfter cfg b (loadBlock c) = c := by
  obtain ⟨g, hbank0⟩ := blockAfter_loadHdr cfg b .h0 c.h0
  obtain ⟨g', hbank1⟩ := blockAfter_loadHdr cfg (writeHdr (writeTag b g) .h0 c.h0) .h1 c.h1
  rw [loadBlock, blockAfter_append, blockAfter_append, blockAfter_append, hbank0, hbank1, blockAfter_tagLoad,
    blockAfter_loadPrims cfg allWidths _ c hc, writeAll_eq]

/-- Settles O58: the host issues `loadBlock` of the content it wants. -/
theorem everyInRangeBlockIsReachable : Obligations.EveryInRangeBlockIsReachable := by
  intro s b hb
  obtain ⟨t, hrun, hblk⟩ := runCommands_blockAfter (loadBlock b) s
  exact ⟨loadBlock b, t, hrun, hblk.trans (blockAfter_loadBlock s.cfg s.blk b hb)⟩

end Sys2Proof.Machine
end

section
/-! The EtherType commands (R140, R141, R158, R159): a write to a header bank and its frame, and the classifier by the value of the
raw EtherType. -/

namespace Sys2Proof.Machine

/-! ## Writes to a header bank and their frame -/

/-- A write to bank `h` and a response change nothing else (R30). -/
theorem keptButHdr_writeHdr (s : State) (h : Bank) (hd : Header) (r : Option Word) :
    keptButHdr h s { s with blk := writeHdr s.blk h hd, resp := r } :=
  ⟨⟨rfl, rfl, rfl⟩, ⟨writeHdr_u1 .., writeHdr_u2 .., writeHdr_u3 .., writeHdr_u4 .., writeHdr_u12 ..⟩, writeHdr_tag ..,
    fun h' hne => readHdr_writeHdr_of_ne s.blk h h' hd hne⟩

/-- A command that stores `hd` in bank `h` leaves it there, and changes nothing else. -/
theorem exec_outcome_of_respond_writeHdr {i : Instr} {s : State} {h : Bank} {hd : Header} {st : Status} {rd : RData}
    {code rdata : Nat} (he : exec i s = respond s (writeHdr s.blk h hd) st rd) (hst : (statusCode st).toNat = code)
    (hrd : rd.toNat = rdata) :
    ∃ t, exec i s = .next t ∧ readHdr t.blk h = hd ∧ responds t code rdata ∧ keptButHdr h s t :=
  ⟨_, he, readHdr_writeHdr .., responds_of_resp_eq rfl hst hrd, keptButHdr_writeHdr s h hd _⟩

/-! ## The classifier's three answers (R141) -/

theorem classify_of_le_1500 (r : Half) (hle : r.toNat ≤ 1500) : classify r = .error .etherTypeIsLength := if_pos hle

theorem classify_of_toNat_eq_0x0800 (r : Half) (hr : r.toNat = 0x0800) : classify r = .ok .ipv4 := by
  obtain rfl : r = 0x0800 := BitVec.eq_of_toNat_eq hr
  rfl

theorem classify_of_unknown (r : Half) (hlt : 1500 < r.toNat) (hne : r.toNat ≠ 0x0800) :
    classify r = .error .unknownEtherType :=
  (if_neg (Nat.not_le.mpr hlt)).trans (if_neg fun hr => hne (congrArg BitVec.toNat hr))

/-! ## The commands -/

/-- Settles O24: a store of the bank with its EtherType replaced, and a read of the stored enumerator's code, which fits the read
data. -/
theorem etherTypeWriteAndRead : Obligations.EtherTypeWriteAndRead := by
  refine ⟨rfl, rfl, fun h s => ⟨?wordEmpty, ?wordIpv4, ?wordRead, fun e => ?write, ?read⟩⟩
  case wordEmpty | wordIpv4 | wordRead => exact encodesTo_of_encode_eq rfl rfl rfl rfl
  case write => exact exec_outcome_of_respond_writeHdr rfl rfl rfl
  case read =>
    obtain ⟨t, hexec, hresp, hkept⟩ := exec_outcome_of_respond_blk (i := .hdrRdEtype h) (s := s) rfl rfl
      (BitVec.toNat_setWidth_of_le (by decide))
    exact ⟨t, hexec, hkept, fun hempty => by rwa [hempty] at hresp, fun hipv4 => by rwa [hipv4] at hresp⟩

/-- Settles O25: the classifier's three answers, the store of IPv4 and the two refusals. -/
theorem etTryFromClassifies : Obligations.EtTryFromClassifies := by
  intro h r s
  refine ⟨encodesTo_of_encode_eq rfl rfl rfl (dataOfD16_toNat r), fun hle => ?length, fun hr => ?ipv4,
    fun ⟨hlt, hne⟩ => ?unknown⟩
  case length => exact exec_outcome_of_respond_blk (exec_etTryFrom_of_error s h r _ (classify_of_le_1500 r hle)) rfl rfl
  case ipv4 =>
    exact exec_outcome_of_respond_writeHdr (exec_etTryFrom_of_ok s h r _ (classify_of_toNat_eq_0x0800 r hr)) rfl rfl
  case unknown => exact exec_outcome_of_respond_blk (exec_etTryFrom_of_error s h r _ (classify_of_unknown r hlt hne)) rfl rfl

end Sys2Proof.Machine
end

section
/-! The header register file commands (R150 to R157, R160): each writes one bank, copies a bank's tag into TAG, or only reads. -/

namespace Sys2Proof.Machine

/-! ## Commands that write a bank -/

/-- Settles O27: a store of the default header. -/
theorem hdrDefaultLoadsDefaults : Obligations.HdrDefaultLoadsDefaults := by
  intro h s
  refine ⟨encodesTo_of_encode_eq rfl rfl rfl rfl, ?write⟩
  case write => exact exec_outcome_of_respond_writeHdr rfl rfl rfl

/-- Settles O28: two stores of the bank with one MAC replaced. -/
theorem hdrMacWrites : Obligations.HdrMacWrites := by
  intro h m s
  refine ⟨?wordSrc, ?wordDst, ?writeSrc, ?writeDst⟩
  case wordSrc | wordDst => exact encodesTo_of_encode_eq rfl rfl rfl rfl
  case writeSrc | writeDst => exact exec_outcome_of_respond_writeHdr rfl rfl rfl

/-- Settles O30: two stores of the bank with its tag slot replaced, by a copy of TAG or by none. -/
theorem hdrTagWrites : Obligations.HdrTagWrites := by
  intro h s
  refine ⟨?wordSet, ?wordClr, ?set, ?clr⟩
  case wordSet | wordClr => exact encodesTo_of_encode_eq rfl rfl rfl rfl
  case set | clr => exact exec_outcome_of_respond_writeHdr rfl rfl rfl

/-! ## Commands that read -/

/-- Settles O29: two reads of the bank, whose MACs are as wide as the read data. -/
theorem hdrMacReads : Obligations.HdrMacReads := by
  intro h s
  refine ⟨?wordSrc, ?wordDst, ?readSrc, ?readDst⟩
  case wordSrc | wordDst => exact encodesTo_of_encode_eq rfl rfl rfl rfl
  case readSrc | readDst => exact exec_outcome_of_respond_blk rfl rfl rfl

/-- Settles O32: the response is the comparison of the banks, which by `headerEq_eq_true_iff` is their equality. -/
theorem hdrEqIsStructuralEquality : Obligations.HdrEqIsStructuralEquality := by
  intro s
  obtain ⟨t, hexec, hresp, hkept⟩ := exec_outcome_of_respond_blk (i := .hdrEq) (s := s) rfl rfl (boolData_toNat _)
  have hequal (heq : s.blk.h0 = s.blk.h1) : responds t 0 1 := by
    rwa [(headerEq_eq_true_iff _ _).mpr heq] at hresp
  have hunequal (hne : s.blk.h0 ≠ s.blk.h1) : responds t 0 0 := by
    rwa [Bool.eq_false_iff.mpr (mt (headerEq_eq_true_iff _ _).mp hne)] at hresp
  exact ⟨encodesTo_of_encode_eq rfl rfl rfl rfl, t, hexec, hkept, hequal, hunequal⟩

/-! ## HDR_GET_TAG -/

/-- To store in TAG what it holds is no change. -/
@[simp] theorem writeTag_self (b : Block) : writeTag b b.tag = b := rfl

/-- To give the response a state already shows, with the block it already has, is to stay in that state. -/
theorem respond_self {s : State} {st : Status} {rd : RData} (h : s.resp = some (respWord st rd)) :
    respond s s.blk st rd = .next s := by
  rw [respond, ← h]

/-- Where TAG already is the bank's tag and the response reports it, HDR_GET_TAG changes nothing at all (R157). -/
theorem exec_hdrGetTag_again_of_some {s : State} {h : Bank} (hslot : (readHdr s.blk h).tag = some s.blk.tag)
    (hresp : s.resp = some (respWord .ok (presentTagData s.blk.tag))) : exec (.hdrGetTag h) s = .next s := by
  rw [exec_hdrGetTag_of_some s h s.blk.tag hslot, writeTag_self]
  exact respond_self hresp

/-- Where the bank has no tag and the response says so, HDR_GET_TAG changes nothing at all (R157). -/
theorem exec_hdrGetTag_again_of_none {s : State} {h : Bank} (hslot : (readHdr s.blk h).tag = none)
    (hresp : s.resp = some (respWord .ok 0)) : exec (.hdrGetTag h) s = .next s := by
  rw [exec_hdrGetTag_of_none s h hslot]
  exact respond_self hresp

/-- Settles O31: a present tag is copied into TAG and reported, an absent one gives the read data 0; the slot is as before, so the
command meets the same case again. -/
theorem hdrGetTagCopiesPresentTag : Obligations.HdrGetTagCopiesPresentTag := by
  intro h s
  refine ⟨encodesTo_of_encode_eq rfl rfl rfl rfl, fun g hg => ?present, fun hnone => ?absent⟩
  case present =>
    have hslot : (readHdr (writeTag s.blk g) h).tag = some g := by rw [readHdr_writeTag, hg]
    exact ⟨_, exec_hdrGetTag_of_some s h g hg, writeTag_tag .., responds_of_resp_eq rfl rfl (presentTagData_toNat g),
      keptButTag_writeTag s g _, exec_hdrGetTag_again_of_some hslot rfl⟩
  case absent =>
    exact ⟨_, exec_hdrGetTag_of_none s h hnone, responds_of_resp_eq rfl rfl rfl, ⟨⟨rfl, rfl, rfl⟩, rfl⟩,
      exec_hdrGetTag_again_of_none hnone rfl⟩

end Sys2Proof.Machine
end

section
/-! Responses and their causes (R170 to R172): a command word always gets one response, its status is the one row of the cause table
that the word meets, and a status other than OK comes with read data 0 and the block as it was. -/

namespace Sys2Proof.Machine

/-! ## Status and read data of a response word -/

/-- Bits 63:60 of a response word hold the status code (R64). -/
theorem respWord_toNat_div (st : Status) (rd : RData) : (respWord st rd).toNat / 2 ^ 60 = (statusCode st).toNat := by
  have hrd := rd.isLt
  rw [respWord_toNat]
  omega

/-- The bits below the status hold the read data (R64). -/
theorem respWord_toNat_mod (st : Status) (rd : RData) : (respWord st rd).toNat % 2 ^ 60 = rd.toNat := by
  have hrd := rd.isLt
  rw [respWord_toNat]
  omega

/-- No two statuses share a code (R65). -/
theorem statusCode_injective : Function.Injective statusCode := by
  intro st st' h
  cases st <;> cases st' <;> simp [statusCode] at h ⊢

/-- A response word shows the code of a status exactly when it was made with that status (R64, R65). -/
theorem respWord_toNat_div_eq_statusCode_iff (st st' : Status) (rd : RData) :
    (respWord st rd).toNat / 2 ^ 60 = (statusCode st').toNat ↔ st = st' := by
  rw [respWord_toNat_div, ← BitVec.toNat_eq, statusCode_injective.eq_iff]

theorem statusCode_toNat_le (st : Status) : (statusCode st).toNat ≤ 4 := by cases st <;> decide

theorem legalResponse_respWord (st : Status) (rd : RData) (h : st ≠ .ok → rd = 0) : legalResponse (respWord st rd) := by
  refine ⟨_, _, respWord_toNat st rd, statusCode_toNat_le st, rd.isLt, fun hcode => ?_⟩
  have hst : st ≠ .ok := fun hok => hcode (congrArg (fun e => (statusCode e).toNat) hok)
  exact congrArg BitVec.toNat (h hst)

/-! ## The rows of the cause table -/

/-- The row of R171 for each status a legal command can report: the causes of the three errors, OK where there is no cause, and
ILLEGAL_COMMAND never. -/
def meetsRow (i : Instr) : Status → Prop
  | .ok => ¬ outOfRangeCause i ∧ ¬ isLengthCause i ∧ ¬ unknownCause i
  | .valueOutOfRange => outOfRangeCause i
  | .etherTypeIsLength => isLengthCause i
  | .unknownEtherType => unknownCause i
  | .illegalCommand => False

/-- Only the classifier has an EtherType cause, and it has no range cause. -/
theorem not_etherTypeCause_of_outOfRangeCause {i : Instr} (h : outOfRangeCause i) : ¬ isLengthCause i ∧ ¬ unknownCause i := by
  cases i
  case pTryFrom | pSet | tagSetPcp | tagSetVid => exact ⟨id, id⟩
  all_goals exact h.elim

/-- A raw EtherType that is a length is not unknown: the bands of R141 are disjoint. -/
theorem not_unknownCause_of_isLengthCause {i : Instr} (h : isLengthCause i) : ¬ unknownCause i := by
  cases i
  case etTryFrom h' r => exact fun hunknown => absurd h (Nat.not_le.mpr hunknown.1)
  all_goals exact h.elim

/-- A command meets at most one row. -/
theorem meetsRow_unique {i : Instr} {st st' : Status} (h : meetsRow i st) (h' : meetsRow i st') : st = st' := by
  have hrange := not_etherTypeCause_of_outOfRangeCause (i := i)
  have hlength := not_unknownCause_of_isLengthCause (i := i)
  cases st <;> cases st' <;> simp only [meetsRow] at h h' ⊢ <;> tauto

/-- Every command responds with the status of the row it meets, and with a status other than OK it writes nothing and returns
no data (R171, R172). -/
theorem exec_respond_meetsRow (i : Instr) (s : State) :
    ∃ b st rd, exec i s = respond s b st rd ∧ meetsRow i st ∧ (st ≠ .ok → b = s.blk ∧ rd = 0) := by
  cases i
  case pTryFrom w v =>
    by_cases h : inRange w v = true
    · exact ⟨_, _, _, exec_pTryFrom_of_inRange s w v h, ⟨fun hgt => (not_inRange_iff w v).mpr hgt h, id, id⟩, (absurd rfl ·)⟩
    · exact ⟨_, _, _, exec_pTryFrom_of_not_inRange s w v h, (not_inRange_iff w v).mp h, fun _ => ⟨rfl, rfl⟩⟩
  case pSet w v =>
    by_cases h : inRange w v = true
    · exact ⟨_, _, _, exec_pSet_of_inRange s w v h, ⟨fun hgt => (not_inRange_iff w v).mpr hgt h, id, id⟩, (absurd rfl ·)⟩
    · exact ⟨_, _, _, exec_pSet_of_not_inRange s w v h, (not_inRange_iff w v).mp h, fun _ => ⟨rfl, rfl⟩⟩
  case tagSetPcp v =>
    by_cases h : v.toNat ≤ pcpMax
    · exact ⟨_, _, _, exec_tagSetPcp_of_le s v h, ⟨Nat.not_lt.mpr h, id, id⟩, (absurd rfl ·)⟩
    · exact ⟨_, _, _, exec_tagSetPcp_of_not_le s v h, Nat.not_le.mp h, fun _ => ⟨rfl, rfl⟩⟩
  case tagSetVid v =>
    by_cases h : v.toNat ≤ vidMax
    · exact ⟨_, _, _, exec_tagSetVid_of_le s v h, ⟨Nat.not_lt.mpr h, id, id⟩, (absurd rfl ·)⟩
    · exact ⟨_, _, _, exec_tagSetVid_of_not_le s v h, Nat.not_le.mp h, fun _ => ⟨rfl, rfl⟩⟩
  case hdrGetTag h =>
    cases ht : (readHdr s.blk h).tag with
    | some t => exact ⟨_, _, _, exec_hdrGetTag_of_some s h t ht, ⟨id, id, id⟩, (absurd rfl ·)⟩
    | none => exact ⟨_, _, _, exec_hdrGetTag_of_none s h ht, ⟨id, id, id⟩, (absurd rfl ·)⟩
  case etTryFrom h r =>
    rcases classify_cases r with ⟨hle, hc⟩ | ⟨rfl, hc⟩ | ⟨hlt, hne, hc⟩
    · exact ⟨_, _, _, exec_etTryFrom_of_error s h r _ hc, hle, fun _ => ⟨rfl, rfl⟩⟩
    · exact ⟨_, _, _, exec_etTryFrom_of_ok s h _ _ hc, ⟨id, by simp [isLengthCause], by simp [unknownCause]⟩, (absurd rfl ·)⟩
    · exact ⟨_, _, _, exec_etTryFrom_of_error s h r _ hc, ⟨hlt, fun heq => hne (BitVec.eq_of_toNat_eq heq)⟩, fun _ => ⟨rfl, rfl⟩⟩
  all_goals exact ⟨_, _, _, rfl, ⟨id, id, id⟩, (absurd rfl ·)⟩

/-! ## The step on a command word -/

/-- The row of R171 for each status a command word can get: ILLEGAL_COMMAND for a word that is no command, else the row of the
command. -/
def wordMeetsRow (w : Word) (st : Status) : Prop :=
  match decode w with
  | .ok i => meetsRow i st
  | .error _ => st = .illegalCommand

theorem wordMeetsRow_of_decode_ok {w : Word} {i : Instr} (hd : decode w = .ok i) (st : Status) :
    wordMeetsRow w st ↔ meetsRow i st := by
  rw [wordMeetsRow, hd]

/-- ILLEGAL_COMMAND is the row of exactly the words that fail a check of R66 to R69. -/
theorem wordMeetsRow_illegalCommand_iff (w : Word) : wordMeetsRow w .illegalCommand ↔ (rawOf w).wellFormed = false := by
  rw [← Bool.not_eq_true, ← decode_ok_iff_wellFormed, wordMeetsRow]
  cases decode w <;> simp [meetsRow]

theorem wordMeetsRow_unique {w : Word} {st st' : Status} (h : wordMeetsRow w st) (h' : wordMeetsRow w st') : st = st' := by
  unfold wordMeetsRow at h h'
  cases hd : decode w with
  | ok i => rw [hd] at h h'; exact meetsRow_unique h h'
  | error e => rw [hd] at h h'; exact h.trans h'.symm

/-- Every command word gets the response of the row it meets, and with a status other than OK nothing is written and no data
returned (R170 to R172). -/
theorem step_respond_wordMeetsRow (s : State) (w : Word) (rest : List HostEvent) (hs : s.pending = .command w :: rest) :
    ∃ b st rd, step s = respond (issue s rest) b st rd ∧ wordMeetsRow w st ∧ (st ≠ .ok → b = s.blk ∧ rd = 0) := by
  unfold wordMeetsRow
  cases hd : decode w with
  | ok i =>
    simp only [step, hs, hd]
    exact exec_respond_meetsRow i (issue s rest)
  | error e =>
    simp only [step, hs, hd]
    exact ⟨_, _, _, rfl, rfl, fun _ => ⟨rfl, rfl⟩⟩

/-- A response to a command word shows the code of a status exactly when the word meets that status's row; and unless the status
is OK, its read data is 0 and the block is as before. -/
theorem response_of_step {s t : State} {w : Word} {rest : List HostEvent} {r : Word} (hs : s.pending = .command w :: rest)
    (ht : step s = .next t) (hr : t.resp = some r) :
    (∀ st, r.toNat / 2 ^ 60 = (statusCode st).toNat ↔ wordMeetsRow w st) ∧
      (r.toNat / 2 ^ 60 ≠ 0 → r.toNat % 2 ^ 60 = 0 ∧ t.blk = s.blk) := by
  obtain ⟨b, st, rd, hstep, hrow, hfail⟩ := step_respond_wordMeetsRow s w rest hs
  obtain rfl := (respond_eq_next_iff _ _ _ _ _).mp (hstep.symm.trans ht)
  obtain rfl : respWord st rd = r := Option.some.inj hr
  refine ⟨fun st' => ?_, fun hne => ?_⟩
  · rw [respWord_toNat_div_eq_statusCode_iff]
    exact ⟨fun h => h ▸ hrow, wordMeetsRow_unique hrow⟩
  · have hst : st ≠ .ok := mt (respWord_toNat_div_eq_statusCode_iff st .ok rd).mpr hne
    obtain ⟨hblk, rfl⟩ := hfail hst
    exact ⟨respWord_toNat_mod st 0, hblk⟩

/-! ## The statements -/

/-- Settles O47: a command word's step responds, by `step_respond_wordMeetsRow`; a reset event and a silent host leave the response
port empty. -/
theorem everyCommandGetsOneResponse : Obligations.EveryCommandGetsOneResponse := by
  intro s
  rcases hp : s.pending with _ | ⟨w | _, rest⟩
  · exact ⟨_, by simp only [step, hp]; rfl, nofun, fun _ => rfl⟩
  · obtain ⟨b, st, rd, hstep, _, hfail⟩ := step_respond_wordMeetsRow s w rest hp
    refine ⟨_, hstep, fun w' rest' hcons => ?_, fun hnone => absurd rfl (hnone w rest)⟩
    obtain ⟨-, rfl⟩ := List.cons.inj hcons
    exact ⟨rfl, rfl, rfl, _, rfl, legalResponse_respWord st rd fun hst => (hfail hst).2⟩
  · exact ⟨_, by simp only [step, hp]; rfl, nofun, fun _ => rfl⟩

/-- Settles O48: the status shown is the row the word meets, and each clause is one row. -/
theorem statusCausesAreTheTables : Obligations.StatusCausesAreTheTables := by
  intro s t w rest r hs ht hr
  have hrow := (response_of_step hs ht hr).1
  refine ⟨(hrow .illegalCommand).trans (wordMeetsRow_illegalCommand_iff w), fun i hd => ?_⟩
  have hcommand (st : Status) : r.toNat / 2 ^ 60 = (statusCode st).toNat ↔ meetsRow i st :=
    (hrow st).trans (wordMeetsRow_of_decode_ok hd st)
  exact ⟨hcommand .valueOutOfRange, hcommand .etherTypeIsLength, hcommand .unknownEtherType⟩

/-- Settles O49: the block and the read data by `response_of_step`; the configuration no step writes. -/
theorem failedCommandWritesNothing : Obligations.FailedCommandWritesNothing := by
  intro s t w rest r hs ht hr hne
  obtain ⟨hdata, hblk⟩ := (response_of_step hs ht hr).2 hne
  exact ⟨hdata, hblk, step_cfg s t ht⟩

end Sys2Proof.Machine
end

section
/-! Reset between commands (R190): the reset event's step, whatever state the block is in. -/

namespace Sys2Proof.Machine

/-- With a reset event next the step is the reset, under the configuration the state holds (R190). -/
theorem step_of_reset (s : State) (rest : List HostEvent) (hs : s.pending = .reset :: rest) : step s = hostReset s rest := by
  simp only [step, hs]

/-- Settles O42: the reset event's step leaves the reset block of the state's own configuration, read register by register. -/
theorem hostResetRestoresResetValues : Obligations.HostResetRestoresResetValues := by
  intro s rest hs
  refine ⟨_, step_of_reset s rest hs, fun w => ?prims, ?tag, fun h => ?banks, ?port, ?config, ?list, ?index⟩
  case prims => exact congrArg BitVec.toNat (readPrim_atReset s.cfg w)
  case tag => rfl
  case banks => exact readHdr_atReset s.cfg h
  case port | config | list | index => rfl

end Sys2Proof.Machine
end

section
/-! The decoder and the encoder are inverse to each other: a command has one word, and every bit of a legal word is used (R61, R70). -/

namespace Sys2Proof.Machine

/-- Settles O37: `decode_encode`, row by row of the opcode map. -/
theorem decodeOfEncodeIsTheCommand : Obligations.DecodeOfEncodeIsTheCommand := decode_encode

theorem etherTypeOfBit_eq_iff (b : Bool) (e : EtherType) : etherTypeOfBit b = e ↔ b = e.bit := by
  cases b <;> cases e <;> decide

theorem etherTypeOfData_eq_some (data : BitVec 48) (e : EtherType) :
    etherTypeOfData data = some e ↔ data = dataOfD1 e.bit := by
  simp only [etherTypeOfData, Option.map_eq_some_iff, etherTypeOfBit_eq_iff, exists_eq_right, d1OfData_eq_some]

theorem d48OfData_eq_some (data : BitVec 48) (m : Mac) : d48OfData data = some m ↔ data = m := Option.some_inj

/-- A word whose fields are known, with rsv 0, is the packed word of these fields (R60). -/
theorem packWord_eq_of_fields {w : Word} {n : Nat} {sel : BitVec 4} {data : BitVec 48} (hop : (opOf w).toNat = n)
    (hsel : selOf w = sel) (hrsv : rsvOf w = 0#4) (hdata : dataOf w = data) : packWord (BitVec.ofNat 8 n) sel data = w := by
  apply word_ext
  · rw [opOf_packWord, ← hop, BitVec.ofNat_toNat, BitVec.setWidth_eq]
  · rw [selOf_packWord, hsel]
  · rw [rsvOf_packWord, hrsv]
  · rw [dataOf_packWord, hdata]

/-- Settles O38: the row the opcode picks fixes the opcode field, and each operand form fixes its field from the operand it read;
these are the fields the encoder packs. -/
theorem encodeOfDecodeIsTheWord : Obligations.EncodeOfDecodeIsTheWord := by
  intro w i h
  unfold decode at h
  split at h
  case h_33 => exact absurd h nofun
  all_goals
    rename_i hop
    obtain ⟨hrsv, a, b, hsel, hdata, rfl⟩ := (readOperands_eq_ok ..).mp h
    simp only [widthOfSel_eq_some, bankOfSel_eq_some, unusedSel_eq_some] at hsel
    simp only [unusedData_eq_some, d16OfData_eq_some, d1OfData_eq_some, etherTypeOfData_eq_some, d48OfData_eq_some] at hdata
    exact packWord_eq_of_fields hop hsel hrsv hdata

/-- Settles O36: the word of each command is the one written out, so the decoder reads the command back; opcode 0 has no row. -/
theorem writtenWordsDecode : Obligations.WrittenWordsDecode := by
  refine ⟨?pTryFrom, ?pSet, ?tagSetDei, ?tagSetVid, ?hdrWrDst, ?hdrSetEtype, ?etTryFrom, ?hdrEq, ?zero⟩
  case pTryFrom => exact decode_encode (.pTryFrom .u12 0xFFF)
  case pSet => exact decode_encode (.pSet .u4 16)
  case tagSetDei => exact decode_encode (.tagSetDei true)
  case tagSetVid => exact decode_encode (.tagSetVid 0x0A0)
  case hdrWrDst => exact decode_encode (.hdrWrDst .h1 0xFFFFFFFFFFFF)
  case hdrSetEtype => exact decode_encode (.hdrSetEtype .h1 .ipv4)
  case etTryFrom => exact decode_encode (.etTryFrom .h1 1500)
  case hdrEq => exact decode_encode .hdrEq
  case zero => rfl

/-- Settles O60: each line is parsed and encoded by evaluation. -/
theorem assemblerExamples : Obligations.AssemblerExamples := by
  refine ⟨?pSet, ?hdrSetEtype, ?tagSetDei, ?refused⟩
  case pSet | hdrSetEtype | tagSetDei | refused => decide

end Sys2Proof.Machine
end

section
/-! The invariant of the machine, registers in range and a legal response or none (R21, R64, R65), at reset and along every step. -/

namespace Sys2Proof.Machine

/-- Settles O54: every register is 0 at reset, and no response is being given. -/
theorem invariantHoldsAtReset : Obligations.InvariantHoldsAtReset := ⟨primsInRange_atReset Config.params, nofun⟩

/-- Whatever the host does next, the response port shows a legal response after the step, or none (R64, R170, R190). -/
theorem step_resp_legal (s t : State) (h : step s = .next t) (r : Word) (hr : t.resp = some r) : legalResponse r := by
  obtain ⟨t', ht', hcommand, hsilent⟩ := everyCommandGetsOneResponse s
  obtain rfl : t' = t := Host.Outcome.next.inj (ht'.symm.trans h)
  by_cases hp : ∃ w rest, s.pending = .command w :: rest
  · obtain ⟨w, rest, hp⟩ := hp
    obtain ⟨-, -, -, r', hr', hlegal⟩ := hcommand w rest hp
    obtain rfl : r' = r := Option.some.inj (hr'.symm.trans hr)
    exact hlegal
  · have hnone : t'.resp = none := hsilent fun w rest hw => hp ⟨w, rest, hw⟩
    rw [hnone] at hr
    cases hr

/-- Settles O55: a register is stored only after its bounds check, and the step's own response replaces the earlier one. -/
theorem stepKeepsTheInvariant : Obligations.StepKeepsTheInvariant := by
  intro s t ⟨hprims, _⟩ h
  exact ⟨step_keeps_primsInRange s t hprims h, step_resp_legal s t h⟩

end Sys2Proof.Machine
end

section
/-! Laws of the primitive registers over two commands and over all commands (R108 to R110), and reads (R54). -/

namespace Sys2Proof.Machine

/-! ## Status OK -/

/-- The host reads status OK off a response exactly when its code is 0 (R64, R65). -/
theorem lastOk_iff_of_responds {t : State} {code rdata : Nat} (h : responds t code rdata) (hrdata : rdata < 2 ^ 60) :
    lastOk t = true ↔ code = 0 := by
  obtain ⟨r, hresp, hr⟩ := h
  have hlt := r.isLt
  simp only [lastOk, hresp, respStatus, statusCode, decide_eq_true_iff, BitVec.toNat_eq, BitVec.extractLsb'_toNat,
    Nat.shiftRight_eq_div_pow, hr]
  simp only [BitVec.ofNat_eq_ofNat, BitVec.toNat_ofNat, Nat.zero_mod]
  omega

/-- A response made with status OK is read as OK. -/
theorem lastOk_of_resp_eq {t : State} {rd : RData} (h : t.resp = some (respWord .ok rd)) : lastOk t = true := by
  simp only [lastOk, h, respStatus_respWord, decide_true]

/-! ## Two commands on one register -/

/-- Settles O8: the two outcomes of P_TRYFROM by `pTryFromStoresAndReturnsInRange`, then a read of the register. -/
theorem pTryFromThenValueReturnsIt : Obligations.PTryFromThenValueReturnsIt := by
  intro w v s
  obtain ⟨-, hstore, hrefuse⟩ := pTryFromStoresAndReturnsInRange w v s
  rcases Nat.lt_or_ge (2 ^ widthBits w - 1) v.toNat with hlt | hle
  · obtain ⟨t, hexec, hresp, -⟩ := hrefuse hlt
    have hnot : ¬ lastOk t = true := by rw [lastOk_iff_of_responds hresp (by decide)]; decide
    exact ⟨t, hexec, iff_of_false hnot (Nat.not_le.mpr hlt), fun hok => absurd hok hnot⟩
  · obtain ⟨t, hexec, hread, hresp, -⟩ := hstore hle
    have hok : lastOk t = true := (lastOk_iff_of_responds hresp (by omega)).mpr rfl
    obtain ⟨-, ⟨u, hvalue, hval, -, hblk⟩, -⟩ := pValueReturnsTheRegister w t
    exact ⟨t, hexec, iff_of_true hok hle, fun _ => ⟨u, hvalue, hread ▸ hval, hblk⟩⟩

/-- Settles O9: the two outcomes of P_SET by `pSetStoresInRange`, then a read of the register. -/
theorem pSetThenValueReturnsNewOrOld : Obligations.PSetThenValueReturnsNewOrOld := by
  intro w v s
  obtain ⟨-, hstore, hrefuse⟩ := pSetStoresInRange w v s
  rcases Nat.lt_or_ge (2 ^ widthBits w - 1) v.toNat with hlt | hle
  · obtain ⟨t, hexec, hresp, -, hblk⟩ := hrefuse hlt
    obtain ⟨-, ⟨u, hvalue, hval, -⟩, -⟩ := pValueReturnsTheRegister w t
    exact ⟨t, u, hexec, hvalue, fun hle => absurd hle (Nat.not_le.mpr hlt), fun _ => ⟨hresp, hblk ▸ hval⟩⟩
  · obtain ⟨t, hexec, hread, -, -⟩ := hstore hle
    obtain ⟨-, ⟨u, hvalue, hval, -⟩, -⟩ := pValueReturnsTheRegister w t
    exact ⟨t, u, hexec, hvalue, fun _ => hread ▸ hval, fun hlt => absurd hle (Nat.not_le.mpr hlt)⟩

/-! ## One register over all commands -/

/-- A primitive register is written by a primitive command on it, and then reads the value stored (R110). -/
theorem BlockWrite.prim_cases {s : State} {i : Instr} {b : Block} (hw : BlockWrite s i b) (w : Width) :
    readPrim b w = readPrim s.blk w ∨ i = .pDefault w ∨ (∃ v, i = .pTryFrom w v ∧ readPrim b w = v) ∨
      (∃ v, i = .pSet w v ∧ readPrim b w = v) := by
  cases hw
  case prim w₀ v fits cmd =>
    by_cases hne : w = w₀
    · subst hne
      have hread : readPrim (writePrim s.blk w v) w = v := readPrim_writePrim_of_inRange s.blk w v fits
      rcases cmd with ⟨rfl, -⟩ | rfl | rfl
      · exact .inr (.inl rfl)
      · exact .inr (.inr (.inl ⟨v, rfl, hread⟩))
      · exact .inr (.inr (.inr ⟨v, rfl, hread⟩))
    · exact .inl (readPrim_writePrim_of_ne s.blk w₀ w v hne)
  all_goals exact .inl (by simp [writeSrc, writeDst, writeSlot, writeEtype])

/-- Settles O10: `prim_cases`, the case of no change left out. -/
theorem primChangesOnlyByItsOwnCommands : Obligations.PrimChangesOnlyByItsOwnCommands := by
  intro i s t w h hne
  exact ((blockWrite_of_exec i s t h).prim_cases w).resolve_left hne

/-! ## Reads -/

/-- Each of the 15 read commands ends by `respondRead` (R54). -/
theorem exec_eq_respondRead_of_readsOnly (i : Instr) (s : State) (hi : readsOnly i = true) :
    ∃ rd, exec i s = respondRead s rd := by
  cases i
  case pDefault | pTryFrom | pSet | tagDefault | tagNew | tagWrTpid | tagSetPcp | tagSetDei | tagSetVid => cases hi
  case hdrDefault | hdrWrSrc | hdrWrDst | hdrSetTag | hdrClrTag | hdrGetTag | hdrSetEtype | etTryFrom => cases hi
  all_goals exact ⟨_, rfl⟩

/-- Settles O51: a read changes the response port alone, which by `exec_with_resp` no command looks at. -/
theorem readsHaveNoSideEffect : Obligations.ReadsHaveNoSideEffect := by
  intro i s hi
  obtain ⟨rd, hexec⟩ := exec_eq_respondRead_of_readsOnly i s hi
  exact ⟨_, hexec, ⟨⟨rfl, rfl, rfl⟩, rfl⟩, (exec_with_resp i s _).trans hexec⟩

end Sys2Proof.Machine
end

section
/-! What a command may make of one header bank (R141, R150 to R158, R162), and the count of the classifier's answers (R142). -/

namespace Sys2Proof.Machine

/-! ## One bank over all commands -/

/-- `BankWrite s h i hd`: issued in state `s`, the command `i` may leave `hd` in bank `h`. A tag may be written by more than one
command; `BlockWrite.slot_cases` says which. -/
inductive BankWrite (s : State) (h : Bank) (i : Instr) : Header → Prop where
  | nothing : BankWrite s h i (readHdr s.blk h)
  | whole (cmd : i = .hdrDefault h) : BankWrite s h i (Header.atReset s.cfg)
  | src (m : Mac) (cmd : i = .hdrWrSrc h m) : BankWrite s h i { readHdr s.blk h with src := m }
  | dst (m : Mac) (cmd : i = .hdrWrDst h m) : BankWrite s h i { readHdr s.blk h with dst := m }
  | slot (g : Option Tag) : BankWrite s h i { readHdr s.blk h with tag := g }
  | etype (e : EtherType) (cmd : i = .hdrSetEtype h e ∨ (i = .etTryFrom h 0x0800 ∧ e = .ipv4)) :
      BankWrite s h i { readHdr s.blk h with etype := e }

/-- A write of one bank is a `BankWrite` of every bank when it is one of the bank written. -/
theorem bankWrite_writeHdr {s : State} {i : Instr} {h₀ : Bank} {hd : Header} (hw : BankWrite s h₀ i hd) (h : Bank) :
    BankWrite s h i (readHdr (writeHdr s.blk h₀ hd) h) := by
  by_cases hh : h = h₀
  · subst hh; rw [readHdr_writeHdr]; exact hw
  · rw [readHdr_writeHdr_of_ne s.blk h₀ h hd hh]; exact .nothing

/-- Of the writes a command can make to the block, each is one of these to every bank (R30). -/
theorem BlockWrite.bankWrite {s : State} {i : Instr} {b : Block} (hw : BlockWrite s i b) (h : Bank) :
    BankWrite s h i (readHdr b h) := by
  cases hw
  case nothing => exact .nothing
  case prim => rw [readHdr_writePrim]; exact .nothing
  case tag | tagFromSlot => rw [readHdr_writeTag]; exact .nothing
  case tpid => rw [readHdr_writeTpid]; exact .nothing
  case tci => rw [readHdr_writeTci]; exact .nothing
  case header h₀ => exact bankWrite_writeHdr (.whole rfl) h
  case src h₀ m => exact bankWrite_writeHdr (.src m rfl) h
  case dst h₀ m => exact bankWrite_writeHdr (.dst m rfl) h
  case slotFromTag h₀ => exact bankWrite_writeHdr (.slot (some s.blk.tag)) h
  case clearSlot h₀ => exact bankWrite_writeHdr (.slot none) h
  case etype h₀ e cmd => exact bankWrite_writeHdr (.etype e cmd) h

theorem BankWrite.src_cases {s : State} {h : Bank} {i : Instr} {hd : Header} (hw : BankWrite s h i hd)
    (hne : hd.src ≠ (readHdr s.blk h).src) : (i = .hdrDefault h ∧ hd.src = s.cfg.macDefault) ∨ i = .hdrWrSrc h hd.src := by
  cases hw
  case whole cmd => exact .inl ⟨cmd, rfl⟩
  case src m cmd => exact .inr cmd
  all_goals exact absurd rfl hne

theorem BankWrite.dst_cases {s : State} {h : Bank} {i : Instr} {hd : Header} (hw : BankWrite s h i hd)
    (hne : hd.dst ≠ (readHdr s.blk h).dst) : (i = .hdrDefault h ∧ hd.dst = s.cfg.macDefault) ∨ i = .hdrWrDst h hd.dst := by
  cases hw
  case whole cmd => exact .inl ⟨cmd, rfl⟩
  case dst m cmd => exact .inr cmd
  all_goals exact absurd rfl hne

theorem BankWrite.etype_cases {s : State} {h : Bank} {i : Instr} {hd : Header} (hw : BankWrite s h i hd)
    (hne : hd.etype ≠ (readHdr s.blk h).etype) :
    (hd.etype = .empty ∧ (i = .hdrDefault h ∨ i = .hdrSetEtype h .empty)) ∨
      (hd.etype = .ipv4 ∧ (i = .hdrSetEtype h .ipv4 ∨ i = .etTryFrom h 0x0800)) := by
  cases hw
  case whole cmd => exact .inl ⟨rfl, .inl cmd⟩
  case etype e cmd =>
    rcases cmd with rfl | ⟨rfl, rfl⟩
    · cases e
      · exact .inl ⟨rfl, .inr rfl⟩
      · exact .inr ⟨rfl, .inl rfl⟩
    · exact .inr ⟨rfl, .inr rfl⟩
  all_goals exact absurd rfl hne

/-- Settles O35: `bankWrite` says what a command may make of bank h, and each part is one field of it. -/
theorem macAndEtherTypeChangeOnlyByTheirCommands : Obligations.MacAndEtherTypeChangeOnlyByTheirCommands := by
  intro i s t h hexec
  have hw : BankWrite s h i (readHdr t.blk h) := (blockWrite_of_exec i s t hexec).bankWrite h
  exact ⟨hw.src_cases, hw.dst_cases, hw.etype_cases⟩

/-! ## Equality of the banks -/

/-- Two banks hold the same header, and one is given another: then the two differ. -/
theorem writeHdr_h0_ne_h1 (b : Block) (h : Bank) (hd hd' : Header) (h0 : b.h0 = hd) (h1 : b.h1 = hd) (hne : hd' ≠ hd) :
    (writeHdr b h hd').h0 ≠ (writeHdr b h hd').h1 := by
  cases h
  · exact h1.symm ▸ hne
  · exact h0.symm ▸ hne.symm

/-- From two equal banks, a command that gives one of them another header makes HDR_EQ respond 0 (R160). -/
theorem hdrEq_zero_of_writeHdr {s : State} {hd hd' : Header} (h0 : s.blk.h0 = hd) (h1 : s.blk.h1 = hd) {i : Instr} {h : Bank}
    (hexec : exec i s = respond s (writeHdr s.blk h hd') .ok 0) (hne : hd' ≠ hd) :
    ∃ t u, exec i s = .next t ∧ exec .hdrEq t = .next u ∧ responds u 0 0 := by
  obtain ⟨-, u, heq, -, -, hunequal⟩ :=
    hdrEqIsStructuralEquality { s with blk := writeHdr s.blk h hd', resp := some (respWord .ok 0) }
  exact ⟨_, u, hexec, heq, hunequal (writeHdr_h0_ne_h1 s.blk h hd hd' h0 h1 hne)⟩

/-- Settles O33: each of the four commands writes a bank whose changed field makes it another header. -/
theorem anyOneFieldBreaksEquality : Obligations.AnyOneFieldBreaksEquality := by
  intro s hd htag hetype h0 h1
  obtain ⟨-, u, hexec, -, hequal, -⟩ := hdrEqIsStructuralEquality s
  refine ⟨⟨u, hexec, hequal (h0.trans h1.symm)⟩, fun h i hi => ?_⟩
  have hbank : readHdr s.blk h = hd := by cases h <;> assumption
  rcases hi with ⟨m, hm, rfl⟩ | ⟨m, hm, rfl⟩ | rfl | rfl
  · exact hdrEq_zero_of_writeHdr (hd' := { readHdr s.blk h with src := m }) h0 h1 rfl
      fun heq => hm (congrArg Header.src heq)
  · exact hdrEq_zero_of_writeHdr (hd' := { readHdr s.blk h with dst := m }) h0 h1 rfl
      fun heq => hm (congrArg Header.dst heq)
  · refine hdrEq_zero_of_writeHdr (hd' := { readHdr s.blk h with tag := some s.blk.tag }) h0 h1 rfl fun heq => ?_
    exact absurd ((congrArg Header.tag heq).trans htag) nofun
  · refine hdrEq_zero_of_writeHdr (hd' := { readHdr s.blk h with etype := .empty }) h0 h1 rfl fun heq => ?_
    exact absurd ((congrArg Header.etype heq).trans hetype) nofun

/-! ## The bands of the classifier -/

theorem statusOf_respond (s : State) (b : Block) (st : Status) (rd : RData) :
    statusOf (respond s b st rd) = (statusCode st).toNat := respWord_toNat_div st rd

/-- The status code that R141 gives the raw EtherType `n`. -/
def bandStatus (n : Nat) : Nat := if n ≤ 1500 then 2 else if n = 0x0800 then 0 else 3

/-- ET_TRYFROM answers with the status of the band its operand is in (R141). -/
theorem statusOf_etTryFrom (h : Bank) (s : State) (n : Nat) (hn : n < 65536) :
    statusOf (exec (.etTryFrom h (BitVec.ofNat 16 n)) s) = bandStatus n := by
  have hval : (BitVec.ofNat 16 n).toNat = n := Nat.mod_eq_of_lt hn
  unfold bandStatus
  split_ifs with hle hipv4
  · rw [exec_etTryFrom_of_error s h _ _ (classify_of_le_1500 _ (by omega)), statusOf_respond]; rfl
  · rw [exec_etTryFrom_of_ok s h _ _ (classify_of_toNat_eq_0x0800 _ (by omega)), statusOf_respond]; rfl
  · rw [exec_etTryFrom_of_error s h _ _ (classify_of_unknown _ (by omega) (by omega)), statusOf_respond]; rfl

/-- Where a function is constant on an interval, it takes a value there always or never. -/
theorem countP_range'_of_const (f : Nat → Nat) (c a len k : Nat) (hf : ∀ n, a ≤ n → n < a + len → f n = c) :
    (List.range' a len).countP (fun n => f n == k) = if c = k then len else 0 := by
  have hconst : ∀ n ∈ List.range' a len, f n = c := fun n hn => by
    obtain ⟨hle, hlt⟩ := List.mem_range'_1.mp hn
    exact hf n hle hlt
  split_ifs with hck
  · calc (List.range' a len).countP (fun n => f n == k)
        = (List.range' a len).length := List.countP_eq_length.mpr fun n hn => by simp [hconst n hn, hck]
      _ = len := List.length_range'
  · exact List.countP_eq_zero.mpr fun n hn => by simp [hconst n hn, hck]

/-- The raw EtherTypes in order are four intervals: the lengths, the unknown ones below IPv4, IPv4, the unknown ones above (R142). -/
theorem range_eq_bands :
    List.range 65536 = List.range' 0 1501 ++ List.range' 1501 547 ++ List.range' 2048 1 ++ List.range' 2049 63487 := by
  have hlength : List.range' 0 1501 ++ List.range' 1501 547 = List.range' 0 2048 := List.range'_append_1
  have hbelow : List.range' 0 2048 ++ List.range' 2048 1 = List.range' 0 2049 := List.range'_append_1
  have habove : List.range' 0 2049 ++ List.range' 2049 63487 = List.range' 0 65536 := List.range'_append_1
  rw [List.range_eq_range', hlength, hbelow, habove]

theorem countP_bandStatus (k : Nat) :
    (List.range 65536).countP (fun n => bandStatus n == k)
      = (if 2 = k then 1501 else 0) + (if 3 = k then 547 else 0) + (if 0 = k then 1 else 0) + (if 3 = k then 63487 else 0) := by
  have hband (c a len : Nat) (hf : ∀ n, a ≤ n → n < a + len → bandStatus n = c) := countP_range'_of_const bandStatus c a len k hf
  rw [range_eq_bands, List.countP_append, List.countP_append, List.countP_append, hband 2 0, hband 3 1501, hband 0 2048,
    hband 3 2049]
  all_goals
    intro n hle hlt
    unfold bandStatus
    split_ifs <;> omega

/-- Settles O26: the answers are `bandStatus` of the operand, and each status is counted band by band. -/
theorem etherTypeBandsAreCounted : Obligations.EtherTypeBandsAreCounted := by
  intro h s
  have hcount (k : Nat) : (List.range 65536).countP (fun n => statusOf (exec (.etTryFrom h (BitVec.ofNat 16 n)) s) == k)
      = (List.range 65536).countP (fun n => bandStatus n == k) :=
    List.countP_congr fun n hn => by rw [statusOf_etTryFrom h s n (List.mem_range.mp hn)]
  exact ⟨(hcount 2).trans (countP_bandStatus 2), (hcount 0).trans (countP_bandStatus 0), (hcount 3).trans (countP_bandStatus 3)⟩

end Sys2Proof.Machine
end

section
/-! What commands leave of TAG: the sub-field setters leave each other's fields alone (R132), and the TPID has its own commands
(R136). -/

namespace Sys2Proof.Machine

/-! ## One setter -/

/-- TAG_SET_PCP writes the PCP, or nothing (R127). -/
theorem blk_of_exec_tagSetPcp {s t : State} {v : Half} (h : exec (.tagSetPcp v) s = .next t) :
    t.blk = writeTci s.blk (withPcp s.blk.tag.tci v) ∨ t.blk = s.blk := by
  by_cases hv : v.toNat ≤ pcpMax
  · rw [exec_tagSetPcp_of_le s v hv, respond_eq_next_iff] at h
    exact .inl (by rw [h])
  · rw [exec_tagSetPcp_of_not_le s v hv, respond_eq_next_iff] at h
    exact .inr (by rw [h])

/-- TAG_SET_DEI writes the DEI (R129). -/
theorem blk_of_exec_tagSetDei {s t : State} {b : Bool} (h : exec (.tagSetDei b) s = .next t) :
    t.blk = writeTci s.blk (withDei s.blk.tag.tci b) := by
  rw [(respondWrite_eq_next_iff s t _).mp h]

/-- TAG_SET_VID writes the VID by the configured path, or nothing (R131). -/
theorem blk_of_exec_tagSetVid {s t : State} {v : Half} (h : exec (.tagSetVid v) s = .next t) :
    t.blk = writeTci s.blk (withVid s.cfg.vidSetMode s.blk.tag.tci v) ∨ t.blk = s.blk := by
  by_cases hv : v.toNat ≤ vidMax
  · rw [exec_tagSetVid_of_le s v hv, respond_eq_next_iff] at h
    exact .inl (by rw [h])
  · rw [exec_tagSetVid_of_not_le s v hv, respond_eq_next_iff] at h
    exact .inr (by rw [h])

/-- Settles O19: each setter writes one sub-field of the TCI or nothing, and reading another sub-field does not see the write. -/
theorem tagSettersAreIndependent : Obligations.TagSettersAreIndependent := by
  intro s t
  refine ⟨fun v h => ?pcp, fun b h => ?dei, fun v h => ?vid⟩
  case pcp => rcases blk_of_exec_tagSetPcp h with hblk | hblk <;> simp [hblk]
  case dei => simp [blk_of_exec_tagSetDei h]
  case vid => rcases blk_of_exec_tagSetVid h with hblk | hblk <;> simp [hblk]

/-! ## The TPID over all commands -/

/-- The TPID is written by a command that loads TAG whole, or by TAG_WR_TPID (R136). -/
theorem BlockWrite.tpid_cases {s : State} {i : Instr} {b : Block} (hw : BlockWrite s i b) :
    b.tag.tpid = s.blk.tag.tpid ∨
      i = .tagDefault ∨ (∃ v, i = .tagNew v) ∨ (∃ v, i = .tagWrTpid v) ∨ (∃ h, i = .hdrGetTag h) := by
  cases hw
  case tag v cmd =>
    rcases cmd with ⟨rfl, -⟩ | rfl
    · exact .inr (.inl rfl)
    · exact .inr (.inr (.inl ⟨v, rfl⟩))
  case tpid v => exact .inr (.inr (.inr (.inl ⟨v, rfl⟩)))
  case tagFromSlot h t present => exact .inr (.inr (.inr (.inr ⟨h, rfl⟩)))
  all_goals exact .inl (by simp)

/-- Settles O23: `tpid_cases`, the case of no change left out; and each TCI read is a read of the TCI, which a TPID write keeps. -/
theorem tpidAndTciAreIndependent : Obligations.TpidAndTciAreIndependent := by
  refine ⟨fun i s t h hne => (blockWrite_of_exec i s t h).tpid_cases.resolve_left hne, fun i s v hi => ?reads⟩
  case reads => rcases hi with rfl | rfl | rfl | rfl <;> exact ⟨_, _, rfl, rfl, rfl⟩

end Sys2Proof.Machine
end

section
/-! Sequences of sub-field setters (R133 to R135): a run of setters is a fold over the TCI, and each sub-field of it is a fold of
its own. -/

namespace Sys2Proof.Machine

/-! ## A run of setters as a fold -/

/-- The TCI after a setter, under a VID write path (R127, R129, R131). -/
def setTci (m : VidSetMode) (tci : Half) : TagSetter → Half
  | .pcp v => withPcp tci (v.setWidth 16)
  | .dei b => withDei tci b
  | .vid v => withVid m tci (v.setWidth 16)

/-- The TCI after a list of setters. -/
def setTcis (m : VidSetMode) (tci : Half) (ss : List TagSetter) : Half := ss.foldl (setTci m) tci

@[simp] theorem setTcis_nil (m : VidSetMode) (tci : Half) : setTcis m tci [] = tci := rfl

@[simp] theorem setTcis_cons (m : VidSetMode) (tci : Half) (a : TagSetter) (ss : List TagSetter) :
    setTcis m tci (a :: ss) = setTcis m (setTci m tci a) ss := rfl

/-- A setter's operand fits its sub-field, so its command stores it (R133). -/
theorem exec_setterInstr (s : State) (a : TagSetter) :
    exec (setterInstr a) s = respond s (writeTci s.blk (setTci s.cfg.vidSetMode s.blk.tag.tci a)) .ok 0 := by
  cases a with
  | pcp v =>
    have hv : (v.setWidth 16).toNat ≤ pcpMax := by
      rw [BitVec.toNat_setWidth_of_le (by decide)]; exact Nat.le_of_lt_succ v.isLt
    exact exec_tagSetPcp_of_le s _ hv
  | dei b => rfl
  | vid v =>
    have hv : (v.setWidth 16).toNat ≤ vidMax := by
      rw [BitVec.toNat_setWidth_of_le (by decide)]; exact Nat.le_of_lt_succ v.isLt
    exact exec_tagSetVid_of_le s _ hv

/-- The block after the commands of a list of setters: the TCI folded over, and nothing else. -/
theorem blockAfter_setters (cfg : Params) (b : Block) (ss : List TagSetter) :
    blockAfter cfg b (ss.map setterInstr) = writeTci b (setTcis cfg.vidSetMode b.tag.tci ss) := by
  induction ss generalizing b with
  | nil => rfl
  | cons a ss ih =>
    calc blockAfter cfg b (setterInstr a :: ss.map setterInstr)
        = blockAfter cfg (writeTci b (setTci cfg.vidSetMode b.tag.tci a)) (ss.map setterInstr) :=
          blockAfter_cons _ (exec_setterInstr (portState cfg b) a)
      _ = writeTci b (setTcis cfg.vidSetMode b.tag.tci (a :: ss)) := ih _

theorem commandCount_map_command (is : List Instr) : commandCount (is.map fun i => .command (encode i)) = is.length := by
  induction is with
  | nil => rfl
  | cons i is ih => exact congrArg Nat.succ ih

/-- A run of commands leaves the configuration and what stood after them in the host's list, and the index counts them (R32, R33). -/
theorem runCommands_hostSide (is : List Instr) (s : State) :
    ∃ t, runCommands is s = .next t ∧ t.blk = blockAfter s.cfg s.blk is ∧ t.cfg = s.cfg ∧ t.pending = s.pending ∧
      t.idx = s.idx + is.length := by
  have hrun := runIsTheFoldOfPortSteps (is.map fun i => .command (encode i)) s.pending (issuing is s) rfl
  rw [List.length_map, commandCount_map_command] at hrun
  exact ⟨_, hrun, eventsStep_commands .., rfl, rfl, rfl⟩

/-- A run of setters leaves the folded TCI in TAG, and changes nothing else. -/
theorem runCommands_setters (ss : List TagSetter) (s : State) :
    ∃ t, runCommands (ss.map setterInstr) s = .next t ∧ t.blk.tag.tci = setTcis s.cfg.vidSetMode s.blk.tag.tci ss ∧
      keptButTci ss.length s t := by
  obtain ⟨t, hrun, hblk, hcfg, hpending, hidx⟩ := runCommands_hostSide (ss.map setterInstr) s
  rw [blockAfter_setters] at hblk
  rw [List.length_map] at hidx
  refine ⟨t, hrun, by rw [hblk, writeTci_tci], hcfg, hpending, hidx, ?_⟩
  rw [hblk]
  exact ⟨⟨rfl, rfl, rfl, rfl, rfl⟩, rfl, rfl, rfl⟩

/-! ## Each sub-field of the fold -/

/-- An operand that was widened is its own low bits. -/
theorem extractLsb'_setWidth_16 {k : Nat} (hk : k ≤ 16) (v : BitVec k) : (v.setWidth 16).extractLsb' 0 k = v := by
  apply BitVec.eq_of_toNat_eq
  rw [BitVec.extractLsb'_toNat, Nat.shiftRight_zero, BitVec.toNat_setWidth_of_le hk, Nat.mod_eq_of_lt v.isLt]

theorem pcpOf_setTcis (m : VidSetMode) (tci : Half) (ss : List TagSetter) :
    pcpOf (setTcis m tci ss) = lastPcp (pcpOf tci) ss := by
  induction ss generalizing tci with
  | nil => rfl
  | cons a ss ih =>
    rw [setTcis_cons, ih]
    cases a with
    | pcp v => rw [setTci, pcpOf_withPcp, extractLsb'_setWidth_16 (by decide), lastPcp]
    | dei b => rw [setTci, pcpOf_withDei, lastPcp]
    | vid v => rw [setTci, pcpOf_withVid, lastPcp]

theorem deiOf_setTcis (m : VidSetMode) (tci : Half) (ss : List TagSetter) :
    deiOf (setTcis m tci ss) = lastDei (deiOf tci) ss := by
  induction ss generalizing tci with
  | nil => rfl
  | cons a ss ih =>
    rw [setTcis_cons, ih]
    cases a with
    | pcp v => rw [setTci, deiOf_withPcp, lastDei]
    | dei b => rw [setTci, deiOf_withDei, lastDei]
    | vid v => rw [setTci, deiOf_withVid, lastDei]

theorem vidOf_setTcis_clear (tci : Half) (ss : List TagSetter) :
    vidOf (setTcis .clear tci ss) = lastVid (vidOf tci) ss := by
  induction ss generalizing tci with
  | nil => rfl
  | cons a ss ih =>
    rw [setTcis_cons, ih]
    cases a with
    | pcp v => rw [setTci, vidOf_withPcp, lastVid]
    | dei b => rw [setTci, vidOf_withDei, lastVid]
    | vid v => rw [setTci, vidOf_withVid_clear, extractLsb'_setWidth_16 (by decide), lastVid]

theorem vidOf_setTcis_additiveOr (tci : Half) (ss : List TagSetter) :
    vidOf (setTcis .additiveOr tci ss) = unionVid (vidOf tci) ss := by
  induction ss generalizing tci with
  | nil => rfl
  | cons a ss ih =>
    rw [setTcis_cons, ih]
    cases a with
    | pcp v => rw [setTci, vidOf_withPcp, unionVid]
    | dei b => rw [setTci, vidOf_withDei, unionVid]
    | vid v => rw [setTci, vidOf_withVid_additiveOr, extractLsb'_setWidth_16 (by decide), unionVid]

/-- Settles O20: the run's TCI is the fold `setTcis`, whose sub-fields in CLEAR mode are the last values written. -/
theorem clearModeKeepsLastValueOfEachField : Obligations.ClearModeKeepsLastValueOfEachField := by
  intro ss s hmode
  obtain ⟨t, hrun, htci, hkept⟩ := runCommands_setters ss s
  rw [hmode] at htci
  exact ⟨t, hrun, by rw [htci, pcpOf_setTcis], by rw [htci, deiOf_setTcis], by rw [htci, vidOf_setTcis_clear], hkept⟩

/-! ## Bit-subsets (R134) -/

/-- `u` has no bit outside `m` exactly when ORing it onto `m` adds nothing. -/
theorem and_not_eq_zero_iff_or_eq {n : Nat} (u m : BitVec n) : u &&& ~~~m = 0#n ↔ u ||| m = m := by
  simp only [BitVec.eq_of_getLsbD_eq_iff, BitVec.getLsbD_and, BitVec.getLsbD_not, BitVec.getLsbD_or, BitVec.getLsbD_zero]
  refine forall₂_congr fun k hk => ?_
  cases u.getLsbD k <;> cases m.getLsbD k <;> simp [hk]

/-- The OR of two values is within `m` exactly when both are. -/
theorem or_or_eq_iff {n : Nat} (u v m : BitVec n) : (u ||| v) ||| m = m ↔ u ||| m = m ∧ v ||| m = m := by
  simp only [BitVec.eq_of_getLsbD_eq_iff, BitVec.getLsbD_or, ← forall₂_and]
  refine forall₂_congr fun k _ => ?_
  cases u.getLsbD k <;> cases m.getLsbD k <;> simp

/-- The union of the starting VID and the written ones is within `m` exactly when each of them is. -/
theorem unionVid_or_eq_iff (v m : BitVec 12) (ss : List TagSetter) :
    unionVid v ss ||| m = m ↔ ∀ u ∈ v :: writtenVids ss, u ||| m = m := by
  induction ss generalizing v with
  | nil => simp [unionVid, writtenVids]
  | cons a ss ih =>
    cases a with
    | pcp _ | dei _ => exact ih v
    | vid u => simp only [unionVid, writtenVids, ih, List.forall_mem_cons, or_or_eq_iff, and_assoc]

theorem lastVid_mem (v : BitVec 12) (ss : List TagSetter) : lastVid v ss ∈ v :: writtenVids ss := by
  induction ss generalizing v with
  | nil => exact List.mem_cons_self
  | cons a ss ih =>
    cases a with
    | pcp _ | dei _ => exact ih v
    | vid u => exact List.mem_cons_of_mem v (ih u)

/-- The union is one of its own members, the last, exactly when all members are bit-subsets of that one (R134). -/
theorem unionVid_eq_lastVid_iff (v : BitVec 12) (ss : List TagSetter) :
    unionVid v ss = lastVid v ss ↔ ∀ u ∈ v :: writtenVids ss, u &&& ~~~(lastVid v ss) = 0#12 := by
  have hlast : lastVid v ss ||| unionVid v ss = unionVid v ss :=
    (unionVid_or_eq_iff v _ ss).mp BitVec.or_self _ (lastVid_mem v ss)
  simp only [and_not_eq_zero_iff_or_eq, ← unionVid_or_eq_iff]
  constructor
  · intro h; rw [h, BitVec.or_self]
  · intro h; rw [← hlast, BitVec.or_comm, h]

/-- Settles O21: the run's TCI is the fold `setTcis`, whose VID in OR mode is the union of the VIDs. -/
theorem orModeAccumulatesVid : Obligations.OrModeAccumulatesVid := by
  intro ss s hmode
  obtain ⟨t, hrun, htci, hkept⟩ := runCommands_setters ss s
  rw [hmode] at htci
  have hvid : vidOf t.blk.tag.tci = unionVid (vidOf s.blk.tag.tci) ss := by rw [htci, vidOf_setTcis_additiveOr]
  exact ⟨t, hrun, by rw [htci, pcpOf_setTcis], by rw [htci, deiOf_setTcis], hvid, by rw [hvid, unionVid_eq_lastVid_iff], hkept⟩

/-! ## Round trip (R135) -/

/-- The six orders of three things. -/
theorem perm_three_cases {α : Type} {a b c : α} {l : List α} (h : l.Perm [a, b, c]) :
    l = [a, b, c] ∨ l = [b, a, c] ∨ l = [c, b, a] ∨ l = [b, c, a] ∨ l = [c, a, b] ∨ l = [a, c, b] := by
  simpa [List.permutations, List.permutationsAux, List.permutationsAux.rec] using List.mem_permutations.mpr h

/-- With each sub-field set once, in whatever order, each holds its value; an OR onto VID 0 is a write (R135). -/
theorem fields_of_perm {p : BitVec 3} {d : Bool} {v : BitVec 12} {ss : List TagSetter}
    (h : ss.Perm [.pcp p, .dei d, .vid v]) (p₀ : BitVec 3) (d₀ : BitVec 1) (v₀ : BitVec 12) :
    lastPcp p₀ ss = p ∧ lastDei d₀ ss = BitVec.ofBool d ∧ lastVid v₀ ss = v ∧ unionVid 0#12 ss = v := by
  rcases perm_three_cases h with rfl | rfl | rfl | rfl | rfl | rfl <;> exact ⟨rfl, rfl, rfl, BitVec.zero_or⟩

/-- The VID after a round trip is the VID written, by either write path from VID 0 and in CLEAR mode from any (R135). -/
theorem vidOf_setTcis_of_perm {p : BitVec 3} {d : Bool} {v : BitVec 12} {ss : List TagSetter}
    (h : ss.Perm [.pcp p, .dei d, .vid v]) (m : VidSetMode) (tci : Half) (hstart : m = .clear ∨ vidOf tci = 0#12) :
    vidOf (setTcis m tci ss) = v := by
  obtain ⟨-, -, hlast, hunion⟩ := fields_of_perm h (pcpOf tci) (deiOf tci) (vidOf tci)
  cases m with
  | clear => rw [vidOf_setTcis_clear, hlast]
  | additiveOr => rw [vidOf_setTcis_additiveOr, hstart.resolve_left nofun, hunion]

/-- A read that ends with some read data responds (OK, its value). -/
theorem exec_responds_of_respondRead {i : Instr} {t : State} {k n : Nat} {v : BitVec k} (hk : k ≤ 48)
    (h : exec i t = respondRead t (v.setWidth 48)) (hv : v.toNat = n) : ∃ u, exec i t = .next u ∧ responds u 0 n :=
  ⟨_, h, responds_of_resp_eq rfl rfl ((BitVec.toNat_setWidth_of_le hk).trans hv)⟩

/-- Settles O22: the sub-fields of the run's TCI are the three values, whatever their order, and the getters return them. -/
theorem tagRoundTripInAllSixOrders : Obligations.TagRoundTripInAllSixOrders := by
  intro p d v ss s hperm hstart
  obtain ⟨t, hrun, htci, -⟩ := runCommands_setters ss s
  obtain ⟨hpcp, hdei, -, -⟩ := fields_of_perm hperm (pcpOf s.blk.tag.tci) (deiOf s.blk.tag.tci) (vidOf s.blk.tag.tci)
  refine ⟨t, hrun, ?pcp, ?dei, ?vid⟩
  case pcp => exact exec_responds_of_respondRead (by decide) rfl (by rw [htci, pcpOf_setTcis, hpcp])
  case dei => exact exec_responds_of_respondRead (by decide) rfl (by rw [htci, deiOf_setTcis, hdei, BitVec.toNat_ofBool])
  case vid => exact exec_responds_of_respondRead (by decide) rfl (by rw [htci, vidOf_setTcis_of_perm hperm _ _ hstart])

end Sys2Proof.Machine
end

section
/-! The step on a command's word, on a silent host, and after a reset event (R180, R190, R191, R193). -/

namespace Sys2Proof.Machine

/-- Settles O41: the decoder's answer picks the branch of the step. -/
theorem stepRunsTheDecodedCommand : Obligations.StepRunsTheDecodedCommand := by
  intro s w rest i hs hd
  simp only [step, hs, hd]
  rfl

/-- Settles O43: the idle step clears the response port, which is no change where it is clear. -/
theorem silentHostLeavesTheBlockWaiting : Obligations.SilentHostLeavesTheBlockWaiting := by
  intro s hs
  have hidle : step s = .next { s with resp := none } := by simp only [step, hs, idle]
  exact ⟨hidle, fun hresp => by rw [hidle, ← hresp]⟩

/-- The eight default commands (R191). -/
def defaultCommands : List Instr :=
  [.pDefault .u1, .pDefault .u2, .pDefault .u3, .pDefault .u4, .pDefault .u12, .tagDefault, .hdrDefault .h0, .hdrDefault .h1]

/-- The default commands write every register, each to its reset value (R34 to R36, R100, R120, R150). -/
theorem blockAfter_defaultCommands (cfg : Params) (b : Block) : blockAfter cfg b defaultCommands = Block.atReset cfg := by
  rw [defaultCommands]
  iterate 8 rw [blockAfter_cons _ rfl]
  rfl

/-- Settles O44: after the default commands the block is the reset block of the configuration, as after a reset event. -/
theorem defaultCommandsEqualReset : Obligations.DefaultCommandsEqualReset := by
  intro s
  obtain ⟨t, hrun, hblk⟩ := runCommands_blockAfter defaultCommands s
  rw [blockAfter_defaultCommands] at hblk
  exact ⟨t, hrun, fun r rest hr hcfg => ⟨_, step_of_reset r rest hr, by rw [hblk, ← hcfg]⟩⟩

/-- Settles O45: both banks are the same header after the reset event, so HDR_EQ finds them equal. -/
theorem hdrEqAfterResetIsTrue : Obligations.HdrEqAfterResetIsTrue := by
  intro s rest hs
  have hreset := step_of_reset s (.command (encode .hdrEq) :: rest) hs
  have hcommand := stepRunsTheDecodedCommand
    { s with blk := Block.atReset s.cfg, pending := .command (encode .hdrEq) :: rest, resp := none } _ rest .hdrEq rfl
    (decode_encode .hdrEq)
  obtain ⟨-, t, hexec, -, hequal, -⟩ := hdrEqIsStructuralEquality
    { s with blk := Block.atReset s.cfg, pending := rest, resp := none, idx := s.idx + 1 }
  refine ⟨t, ?_, hequal rfl⟩
  rw [run_succ_of_step 1 s _ hreset, run_succ_of_step 0 _ t (hcommand.trans hexec)]
  rfl

end Sys2Proof.Machine
end

section
/-! The pseudo-instructions (R73): the host issues the expansion word by word, no command of it has a cause for an error, and so all
of it runs. -/

namespace Sys2Proof.Machine

/-- A command that meets no cause of R171 has status OK at the port, and leaves what `blockAfter` says. -/
theorem portStep_encode_of_meetsRow_ok (cfg : Params) (b : Block) (i : Instr) (hi : meetsRow i .ok) :
    ∃ rd, portStep cfg b (encode i) = (blockAfter cfg b [i], some (respWord .ok rd)) := by
  obtain ⟨c, st, rd, hexec, hrow, -⟩ := exec_respond_meetsRow i (portState cfg b)
  obtain rfl : st = .ok := meetsRow_unique hrow hi
  exact ⟨rd, by rw [portStep_encode hexec, blockAfter_cons [] hexec, blockAfter_nil]⟩

/-- The host goes on after a step with status OK, and stops after any other (R73). -/
theorem issueUntilError_cons {w : Word} {s t : State} (ws : List Word)
    (h : step { s with pending := .command w :: s.pending } = .next t) :
    issueUntilError (w :: ws) s = if lastOk t then issueUntilError ws t else .next t := by
  simp only [issueUntilError, h]

/-- Commands that meet no cause all run, and the last one's status is OK (R73). -/
theorem issueUntilError_of_meetsRow_ok (is : List Instr) (s : State) (his : ∀ i ∈ is, meetsRow i .ok)
    (hlast : lastOk s = true ∨ is ≠ []) :
    ∃ t, issueUntilError (is.map encode) s = .next t ∧ lastOk t = true ∧ t.blk = blockAfter s.cfg s.blk is := by
  induction is generalizing s with
  | nil => exact ⟨s, rfl, hlast.resolve_right (absurd rfl), rfl⟩
  | cons i is ih =>
    obtain ⟨hi, his⟩ := List.forall_mem_cons.mp his
    obtain ⟨rd, hport⟩ := portStep_encode_of_meetsRow_ok s.cfg s.blk i hi
    have hstep := step_eq_portStep { s with pending := .command (encode i) :: s.pending } (encode i) s.pending rfl
    simp only [hport] at hstep
    obtain ⟨t, hissue, hok, hblk⟩ := ih _ his (.inl (lastOk_of_resp_eq (t := { s with
      blk := blockAfter s.cfg s.blk [i], resp := some (respWord .ok rd), idx := s.idx + 1 }) rfl))
    refine ⟨t, ?_, hok, hblk.trans (blockAfter_append s.cfg s.blk [i] is).symm⟩
    rw [List.map_cons, issueUntilError_cons _ hstep, if_pos (lastOk_of_resp_eq rfl)]
    exact hissue

/-- No command of an expansion has a cause for an error: none of them has a row in the cause table but OK (R73, R171). -/
theorem meetsRow_ok_of_mem_expandPseudo (p : Pseudo) (i : Instr) (hi : i ∈ expandPseudo p) : meetsRow i .ok := by
  cases p <;> simp only [expandPseudo, expandHdrNew, List.cons_append, List.nil_append, List.mem_cons, List.not_mem_nil,
    or_false] at hi
  case tagLoad => rcases hi with rfl | rfl <;> exact ⟨id, id, id⟩
  case hdrNew => rcases hi with rfl | rfl | rfl | rfl <;> exact ⟨id, id, id⟩
  case hdrNewTagged => rcases hi with rfl | rfl | rfl | rfl | rfl <;> exact ⟨id, id, id⟩

/-- A pseudo-instruction ends with status OK and the block after its expansion (R73). -/
theorem runPseudo_blockAfter (p : Pseudo) (s : State) :
    ∃ t, runPseudo p s = .next t ∧ lastOk t = true ∧ t.blk = blockAfter s.cfg s.blk (expandPseudo p) :=
  issueUntilError_of_meetsRow_ok (expandPseudo p) s (meetsRow_ok_of_mem_expandPseudo p) (.inr (by cases p <;> nofun))

/-- Settles O59: each pseudo-instruction runs its whole expansion, whose effect on the block is known; and the stop at the first
status that is not OK is `issueUntilError_cons`. -/
theorem pseudoInstructionsHaveTheirEffect : Obligations.PseudoInstructionsHaveTheirEffect := by
  refine ⟨fun s tpid tci => ?tagLoad, fun s h src dst e => ?hdrNew, fun s h src dst e => ?hdrNewTagged,
    fun w ws s t hstep hok => ?stop⟩
  case tagLoad =>
    obtain ⟨t, hrun, hok, hblk⟩ := runPseudo_blockAfter (.tagLoad tpid tci) s
    exact ⟨t, hrun, hok, hblk.trans (blockAfter_tagLoad s.cfg s.blk { tpid := tpid, tci := tci })⟩
  case hdrNew =>
    obtain ⟨t, hrun, hok, hblk⟩ := runPseudo_blockAfter (.hdrNew h src dst e) s
    exact ⟨t, hrun, hok, hblk.trans (blockAfter_expandHdrNew ..)⟩
  case hdrNewTagged =>
    obtain ⟨t, hrun, hok, hblk⟩ := runPseudo_blockAfter (.hdrNewTagged h src dst e) s
    exact ⟨t, hrun, hok, hblk.trans (blockAfter_hdrNewTagged ..)⟩
  case stop => rw [issueUntilError_cons ws hstep, hok, if_neg Bool.false_ne_true]

end Sys2Proof.Machine
end
